-- ==== Sys2Proof/Word.lean ====
section
/-! DEFINITION. The words the LF-4 stores and sends, and its saturating money (spec 00 Conventions, 08 R155). -/
namespace Sys2Proof

/-- One byte of a frame. -/
abbrev Byte := BitVec 8
/-- A 16-bit field or counter. -/
abbrev W16 := BitVec 16
/-- A 32-bit stamp, registration or sequence number; these wrap. -/
abbrev W32 := BitVec 32
/-- One tariff store entry (07 R118). -/
abbrev W64 := BitVec 64

/-- The largest value a money field holds (08 R155). -/
def moneyMax : Nat := 4294967295

/-- Money addition: "leaves it at 4,294,967,295" (08 R155). -/
def addMoney (a b : Nat) : Nat := min (a + b) moneyMax

/-- A count that holds at a limit (lockage count 255, minute count 65,535; 08 R153, R145). -/
def countUp (limit a : Nat) : Nat := min (a + 1) limit

end Sys2Proof
end

