-- ==== Sys2Proof/Records.lean ====
section
/-! DEFINITION. The names and records of the LF-4: each enumeration in the order its rule lists it, each record with the
fields its rule gives, the replies and notices, and `Block`, all the state the spec gives the part. -/
namespace Sys2Proof

/-! ## Names -/

/-- The station links (11 R183); 13 R203 numbers them U 0, L 1, T 2. -/
inductive Link where | u | l | t
deriving DecidableEq, Repr

/-- The two approaches, reaches and signals: LOWER 0, UPPER 1 (13 R203). -/
inductive Side where | lower | upper
deriving DecidableEq, Repr

/-- Control mode of a section (02 R22) and mode of a signal (06 R105). -/
inductive Mode where | auto | manual
deriving DecidableEq, Repr

/-- Direction of a vessel: UP 0, DOWN 1 (05 R83, 13 R203). -/
inductive Direction where | up | down
deriving DecidableEq, Repr

/-- Travel direction of a gate: OPEN or CLOSE (02 R22). -/
inductive Travel where | opens | closes
deriving DecidableEq, Repr

/-- Gate state (02 R22). -/
inductive GateState where | closed | opening | opened | closing | stopped
deriving DecidableEq, Repr

/-- Sluice state (01 R12). -/
inductive SluiceState where | shut | cracked | opened | shutting | fault
deriving DecidableEq, Repr

/-- Chamber state (01 R1). -/
inductive ChamberState where | empty | full | transfer | unknown
deriving DecidableEq, Repr

/-- Depth reading of a chamber (01 R6). -/
inductive DepthReading where | low | mid | high | invalid
deriving DecidableEq, Repr

/-- The WSU's answer about a transfer (01 R3). -/
inductive TransferAnswer where | busy | unknown | permitted | refused
deriving DecidableEq, Repr

/-- Phase of a transfer (01, before R13). -/
inductive Phase where | crack | full | shutWait
deriving DecidableEq, Repr

/-- Fault cause carried by a running transfer (01, before R13). -/
inductive Cause where | timeout | aborted | reachOut
deriving DecidableEq, Repr

/-- The faulty ends of a transfer, as TRANSFER_FAULT names them (11 R193, 13 R206). -/
inductive TransferEnd where | timeout | aborted | reachOut | short | depthMismatch | shutFail
deriving DecidableEq, Repr

/-- Kinds of section fault (02 R24, numbered in 13 R206). -/
inductive FaultKind where | stall | overtravel | limitConflict | drift | shutFail
deriving DecidableEq, Repr

/-- State of a timer channel (04 R69). -/
inductive ChannelState where | idle | starting | running | ended
deriving DecidableEq, Repr

/-- Counting direction of a channel (04 R69). -/
inductive CountDir where | up | down
deriving DecidableEq, Repr

/-- Flight condition: SETUP 0, SERVICE 1, STOPPED 2 (10 R168, 13 R206). -/
inductive Condition where | setup | service | stopped
deriving DecidableEq, Repr

/-- ESTOP state (10 R168). -/
inductive EstopState where | asserted | released | noReading
deriving DecidableEq, Repr

/-- Last cause of a change of condition (10 R168). -/
inductive ConditionCause where | powerOn | reset | openService | endService | stopAll | estop | resume
deriving DecidableEq, Repr

/-- Lease action: KEEP 0, RELEASE 1 (03 R55, 13 R203). -/
inductive LeaseAction where | keep | release
deriving DecidableEq, Repr

/-- Lease state (03 R55). -/
inductive LeaseState where | off | running | lapsed
deriving DecidableEq, Repr

/-- Passage state of a vessel (05 R83). -/
inductive PassageState where | free | booked | waiting | called | inFlight | cleared
deriving DecidableEq, Repr

/-- Rate status (05 R84). -/
inductive RateStatus where | pending | resolved | failed
deriving DecidableEq, Repr

/-- Causes of a failed walk (07 R129). -/
inductive WalkFailure where | storeRange | noTariff | badTable | badLeaf | badIndirect
deriving DecidableEq, Repr

/-- Position of a vessel (05 R83); chamber Ck is index k-1. -/
inductive Position where
  | none
  | approach (side : Side)
  | chamber (c : Fin 4)
deriving DecidableEq, Repr

/-- Aspect of a signal (06 R105). -/
inductive Aspect where | closed | stop | prepare | proceed
deriving DecidableEq, Repr

/-- Proving state of a lamp (06 R105). -/
inductive LampState where | proven | failed
deriving DecidableEq, Repr

/-- Proving stage of a lamp (06 R105); the green lamp never stands FLASHING. -/
inductive LampStage where | dark | settling | watching | flashing
deriving DecidableEq, Repr

/-- The two lamps of a signal: RED 0, GREEN 1 (13 R206). -/
inductive Lamp where | red | green
deriving DecidableEq, Repr

/-- Why an AUTO signal shows its aspect (06 R116); `none` of the reasons stands behind PROCEED or PREPARE. -/
inductive AspectReason where
  | condition | noVesselCalled | gateNotOpen | reachOut | redFailed | notAccepting | requirementsMet
deriving DecidableEq, Repr

/-- State of the walk engine (07 R125). -/
inductive EngineState where | idle | walking | abandoning
deriving DecidableEq, Repr

/-- The entry a step of a walk is at (07 R125). -/
inductive WalkLevel where | level1 | level2 | leaf | target
deriving DecidableEq, Repr

/-- Kind of a tariff store entry: bits 63..62 (07 R118, 13 R204). -/
inductive EntryKind where | invalid | table | rate | indirect
deriving DecidableEq, Repr

/-- Requesters of the store (07 R122). -/
inductive Requester where | walk | link
deriving DecidableEq, Repr

/-- State of a dwell meter (08 R143). -/
inductive MeterState where | free | running | stopping | stopped
deriving DecidableEq, Repr

/-- The two limit switches of a gate (04 R65). -/
inductive LimitSwitch where | openLimit | closedLimit
deriving DecidableEq, Repr

/-- The two float switches of a chamber (01 R6). -/
inductive FloatSwitch where | low | high
deriving DecidableEq, Repr

/-- The outcome codes, 00h to 1Fh in this order (11 R191, 13 R201). -/
inductive OutcomeCode where
  | done | accepted | queued | already | badFrame | unknownRequest | notPermitted | badArgument
  | wrongCondition | notHolder | orphaned | inProgress | notLevel | sensorDisagree | lineBlocked | lampFail
  | reachOut | faultPending | notManual | manualActive | tableFull | queueFull | ratingBusy | duplicateReg
  | tooLong | ratingPending | accountHold | wrongDirection | noRoom | noMeter | outOfOrder | badSequence
deriving DecidableEq, Repr

/-! ## Section, water and timers -/

/-- The transfer record of a section (01, before R13). -/
structure TransferRec where
  start    : W32
  phase    : Phase
  cause    : Option Cause
  captured : Option Nat
deriving DecidableEq, Repr

/-- The fault record of a section (02 R24). -/
structure FaultRec where
  kind     : FaultKind
  stamp    : W32
  repeated : Bool
deriving DecidableEq, Repr

/-- The section record (02 R22, with the claim fields of 03 R47). -/
structure Section where
  holder    : Option Link
  waiter    : Option Link
  orphan    : Bool
  mode      : Mode
  gate      : GateState
  position  : Option Nat
  travel    : Travel
  sluice    : SluiceState
  transfer  : Option TransferRec
  lastTicks : Nat
  fault     : Option FaultRec
deriving DecidableEq, Repr

/-- The chamber record of the WSU (01 R1, R5). -/
structure Chamber where
  state         : ChamberState
  lockages      : W16
  emptyLockages : W16
deriving DecidableEq, Repr

/-- A timer channel (04 R69); its mode is fixed by its place. -/
structure Channel where
  state   : ChannelState
  count   : Nat
  reload  : Nat
  compare : Nat
  limit   : Nat
  capture : Nat
  dir     : CountDir
deriving DecidableEq, Repr

/-- Channels 3k, 3k+1 and 3k+2 of section k (04 R69). -/
structure SectionTimers where
  stroke   : Channel
  stall    : Channel
  transfer : Channel
deriving DecidableEq, Repr

/-- Channel 15 and the flasher phase, ON when `on` (04 R76). -/
structure Flasher where
  channel : Channel
  on      : Bool
deriving DecidableEq, Repr

/-- The four drive latches of a section (04 R77). -/
structure DriveLatches where
  gateOpen    : Bool
  gateClose   : Bool
  paddleCrack : Bool
  paddleFull  : Bool
deriving DecidableEq, Repr

/-- The two lamp latches of an approach (04 R77). -/
structure LampLatches where
  red   : Bool
  green : Bool
deriving DecidableEq, Repr

/-- The qualified inputs (04 R65). A reading of `true` is: limit or float active, beam broken, head LEVEL, paddle SHUT,
band IN_BAND, lamp proven, ESTOP asserted. -/
inductive Input where
  | openLimit (k : Fin 5)
  | closedLimit (k : Fin 5)
  | beam (k : Fin 5)
  | head (k : Fin 5)
  | paddle (k : Fin 5)
  | lowFloat (c : Fin 4)
  | highFloat (c : Fin 4)
  | band (side : Side)
  | redProving (side : Side)
  | greenProving (side : Side)
  | estop
deriving DecidableEq, Repr

/-- A qualifier: qualified state, previous sample (04 R65, R67), and the arrival it has made that is not yet taken (log 1). -/
structure Qualifier where
  state  : Option Bool
  prev   : Option Bool
  raised : Option Bool
deriving DecidableEq, Repr

/-- The tick number within the second (04 R63; 0 before the first tick, log 7), and whether the second handed on at tick 10
still waits to be taken by the Account Unit (log 1). -/
structure TickRec where
  number    : Nat
  secondDue : Bool
deriving DecidableEq, Repr

/-! ## Vessels -/

/-- The resolved rate of a vessel (05 R83). -/
structure Rate where
  baseFee     : Nat
  perMetre    : Nat
  dwellRate   : Nat
  freeMinutes : Nat
  surcharge   : Nat
  hold        : Bool
  exempt      : Bool
  stale       : Bool
  source      : Option Nat
deriving DecidableEq, Repr

/-- The vessel record (05 R83). -/
structure Vessel where
  state         : PassageState
  registration  : W32
  length        : Nat
  direction     : Direction
  operator      : W16
  cls           : Nat
  cargo         : Nat
  rateStatus    : RateStatus
  rate          : Option Rate
  officeHold    : Bool
  position      : Position
  admission     : Option W32
  meter         : Option (Fin 8)
  passageFee    : Nat
  lockageCount  : Nat
  lockageTotal  : Nat
  dwellMinutes  : Nat
  dwellCharge   : Nat
  booked        : W32
  admitted      : Option W32
  exited        : Option W32
  bookedBy      : Option Link
  withdrawn     : Bool
deriving DecidableEq, Repr

/-- The signal record (06 R105). -/
structure Signal where
  mode        : Mode
  aspect      : Aspect
  preset      : Aspect
  redState    : LampState
  greenState  : LampState
  redStage    : LampStage
  greenStage  : LampStage
  redSettle   : Nat
  greenSettle : Nat
  proof       : Bool
  firstCycle  : Bool
deriving DecidableEq, Repr

/-! ## Tariff -/

/-- The cache key: group, class and cargo (07 R124). -/
structure Key where
  group : Nat
  cls   : Nat
  cargo : Nat
deriving DecidableEq, Repr

/-- What a valid way of the rate cache holds (07 R131). -/
structure CacheEntry where
  key         : Key
  baseFee     : Nat
  perMetre    : Nat
  dwellRate   : Nat
  freeMinutes : Nat
  surcharge   : Nat
  hold        : Bool
  exempt      : Bool
  standing    : Bool
  source      : Nat
deriving DecidableEq, Repr

/-- A cache set: four ways, and the use order of the valid ones, most recent first (07 R131). -/
structure CacheSet where
  ways  : Vector (Option CacheEntry) 4
  order : List (Fin 4)
deriving DecidableEq, Repr

/-- An exemption window (07 R123). -/
structure Window where
  enable : Bool
  base   : W16
  mask   : W16
deriving DecidableEq, Repr

/-- The walk record (07 R125). `next` is the index of the READ that follows a write-back of a TABLE, fixed when the entry was
judged (R126, log 27). -/
structure Walk where
  slot      : Fin 16
  key       : Key
  root      : Nat
  level     : WalkLevel
  writeBack : Bool
  index     : Nat
  hold      : Bool
  surcharge : Nat
  leaf      : Option W64
  source    : Option Nat
  stale     : Bool
  inAccess  : Bool
  next      : Nat
deriving DecidableEq, Repr

/-- Link T's store access: a write of a value, or a read (07 R119, R120, R122). -/
structure LinkAccess where
  write    : Option W64
  index    : Nat
  inAccess : Bool
deriving DecidableEq, Repr

/-- The Tariff Unit (07). The store lists the entries that are not 0, indices rising. -/
structure Tariff where
  store      : List (Nat × W64)
  root       : Nat
  windows    : Vector Window 2
  freeze     : Bool
  queue      : List (Fin 16)
  engine     : EngineState
  walk       : Option Walk
  cache      : Vector CacheSet 4
  lastServed : Requester
  access     : Option LinkAccess
deriving DecidableEq, Repr

/-! ## Accounts -/

/-- A dwell meter (08 R143). -/
structure Meter where
  state   : MeterState
  minutes : Nat
  owner   : Option (Fin 16)
deriving DecidableEq, Repr

/-- An account record (09 R159). -/
structure AccountRecord where
  sequence     : W32
  registration : W32
  length       : Nat
  direction    : Direction
  operator     : W16
  cls          : Nat
  cargo        : Nat
  withdrawn    : Bool
  exempt       : Bool
  staleRate    : Bool
  rateHold     : Bool
  officeHold   : Bool
  failedRate   : Bool
  booked       : W32
  admitted     : Option W32
  exited       : Option W32
  passageFee   : Nat
  lockageCount : Nat
  lockageTotal : Nat
  dwellMinutes : Nat
  dwellCharge  : Nat
  total        : Nat
deriving DecidableEq, Repr

/-- The Account Unit (08, 09). -/
structure Account where
  clock    : W32
  meters   : Vector Meter 8
  charge   : Nat
  writeOff : Nat
  closing  : List (Fin 16)
  journal  : List AccountRecord
  nextSeq  : W32
deriving DecidableEq, Repr

/-! ## Condition and configuration -/

/-- The condition record (10 R168); the ESTOP state is read from its qualifier (log 20). -/
structure ConditionRec where
  condition  : Condition
  lastCause  : ConditionCause
  causeLink  : Option Link
  admissions : W32
deriving DecidableEq, Repr

/-- Parameters of a chamber (10 R178). -/
structure ChamberCfg where
  usable : Nat
  limit  : Nat
deriving DecidableEq, Repr

/-- Parameters of a section (10 R178). -/
structure SectionCfg where
  stroke        : Nat
  margin        : Nat
  stallTicks    : Nat
  crackDelay    : Nat
  transferLimit : Nat
  minTransfer   : Nat
  shutLimit     : Nat
deriving DecidableEq, Repr

/-- The configuration set (10 R178) less the leases, which stand in the link records. -/
structure ConfigSet where
  n         : Fin 5
  chambers  : Vector ChamberCfg 4
  sections  : Vector SectionCfg 5
  flashHalf : Nat
  threshold : Nat
deriving DecidableEq, Repr

/-- The lease of a link (03 R55). -/
structure Lease where
  period  : Nat
  action  : LeaseAction
  state   : LeaseState
  counter : Nat
deriving DecidableEq, Repr

/-- The parameters of CONFIGURE with their indices, numbered 0 to 13 in this order (10 R178, 13 R203). -/
inductive Parameter where
  | chamberCount
  | usableLength (c : Fin 4)
  | vesselLimit (c : Fin 4)
  | fullStroke (k : Fin 5)
  | overtravelMargin (k : Fin 5)
  | stallTicks (k : Fin 5)
  | crackDelay (k : Fin 5)
  | transferLimit (k : Fin 5)
  | minimumTransfer (k : Fin 5)
  | shutLimit (k : Fin 5)
  | flashHalfPeriod
  | leasePeriod (link : Link)
  | leaseAction (link : Link)
  | journalThreshold
deriving DecidableEq, Repr

/-- One item of a CONFIGURE as it stands in the frame (13 R203). -/
structure ConfigItem where
  param : Byte
  index : Byte
  value : W16
deriving DecidableEq, Repr

/-! ## Notices -/

/-- A notice: its kind with its argument (11 R193). -/
inductive Notice where
  | gateDone (k : Fin 5) (opened : Bool)
  | gateFault (k : Fin 5) (kind : FaultKind)
  | transferDone (k : Fin 5) (ticks : Nat)
  | transferFault (k : Fin 5) (why : TransferEnd)
  | levelFault (c : Fin 4)
  | lineBlocked (k : Fin 5)
  | claimGranted (k : Fin 5) (holder : Link) (takenOver : Bool)
  | leaseLapsed (link : Link)
  | vesselRated (v : Fin 16) (failure : Option WalkFailure)
  | vesselCleared (v : Fin 16) (withdrawn : Bool)
  | lampFault (side : Side) (lamp : Lamp)
  | reachChange (side : Side) (inBand : Bool)
  | journalThreshold (count : Nat) (newest : W32)
  | journalFull (newest : W32) (closing : Nat)
  | conditionChange (new old : Condition) (cause : ConditionCause) (link : Option Link)
  | estop (asserted : Bool)
deriving DecidableEq, Repr

/-- A pending entry (11 R194). -/
structure NoticeEntry where
  notice  : Notice
  overrun : Bool
deriving DecidableEq, Repr

/-- An urgent slot (11 R194). -/
structure Urgent where
  enable : Bool
  kind   : Fin 16
deriving DecidableEq, Repr

/-- The notice settings and pending set of a link (11 R194). -/
structure NoticeRec where
  levels    : Vector (Fin 4) 16
  urgent0   : Urgent
  urgent1   : Urgent
  threshold : Nat
  entries   : Vector (Option NoticeEntry) 16
deriving DecidableEq, Repr

/-! ## Replies -/

/-- The conditions of R40's table that a FAULT_PENDING reply to CLEAR FAULT names: both limit inputs read active, or one has no reading
(04 R67); the sluice in FAULT with its paddle-shut input not reading SHUT. -/
inductive FaultCondition where
  | bothLimits
  | sluiceNotShut
deriving DecidableEq, Repr

/-- What a reply carries. The layout of `bytes` is fixed by 13; that of the others the manual leaves open (log 6). -/
inductive Payload where
  | none
  | bytes (bs : List Byte)
  | chamberStates (states : List (Fin 4 × ChamberState))
  | sectionNo (k : Fin 5)
  | chamberNo (c : Fin 4)
  | slot (v : Fin 16)
  | item (n : Nat)
  | estopState (e : EstopState)
  | faultCondition (c : FaultCondition)
  | aspect (a : Aspect)
  | clock (c : W32)
  | money (m : Nat)
  | waysFlushed (n : Nat)
  | released (removed written count : Nat)
  | sectionRec (rec : Section) (openLimit closedLimit beam head paddle : Option Bool)
  | chamberRec (state : ChamberState) (depth : Option DepthReading) (lockages emptyLockages : W16) (lowerIn upperIn : Bool)
      (sluices : List (Fin 5 × SluiceState × Nat × Option TransferRec)) (vessels : List (Fin 16 × Direction × Nat))
      (count summed : Nat) (cfg : ChamberCfg)
  | channel (number : Nat) (channel : Channel) (drives : DriveLatches)
  | flasher (channel : Channel) (on : Bool) (lower upper : LampLatches) (tick : Nat)
  | vessel (rec : Vessel)
  | freeSlot
  | queue (vessels : List (Fin 16 × PassageState × Nat × RateStatus × Bool × Bool)) (booked reservations : Nat)
  | signal (rec : Signal) (latches : LampLatches) (redProving greenProving : Option Bool) (on : Bool)
      (reason : Option AspectReason)
  | rateCache (set : CacheSet) (freeze : Bool)
  | ratingState (queue : List (Fin 16)) (engine : EngineState) (walk : Option Walk) (root : Nat) (windows : Vector Window 2)
      (freeze : Bool) (lastServed : Requester) (linkWaits : Bool)
  | meters (clock : W32) (meters : Vector Meter 8)
  | writeOff (total charge : Nat)
  | configGeneral (n : Fin 5) (flashHalf threshold : Nat) (leases : List (Link × Nat × LeaseAction × LeaseState))
      (cond : ConditionRec) (estop : EstopState)
  | configChamber (cfg : ChamberCfg)
  | configSection (cfg : SectionCfg)
  | noticeState (rec : NoticeRec) (line : Bool)
deriving DecidableEq, Repr

/-- A reply frame less its length and check, which its payload fixes (11 R189). -/
structure ReplyFrame where
  code    : Byte
  tag     : Byte
  outcome : OutcomeCode
  payload : Payload
deriving DecidableEq, Repr

/-- A request entry: a good frame, or a bad-frame entry (11 R183, R186). -/
inductive RequestEntry where
  | good (code tag : Byte) (payload : List Byte)
  | bad (code tag : Byte)
deriving DecidableEq, Repr

/-- The link record (11 R183). The LAPSED mark is the lease state LAPSED (log 20). `out` is what the data output shifted out in
the last transaction (R184, R185, R189, log 29). -/
structure LinkRec where
  requests : List RequestEntry
  inHand   : Bool
  replies  : List ReplyFrame
  dropped  : Bool
  lease    : Lease
  out      : List Byte
deriving DecidableEq, Repr

/-- One thing for each link. -/
structure PerLink (α : Type) where
  u : α
  l : α
  t : α
deriving DecidableEq, Repr

/-- One thing for each side. -/
structure PerSide (α : Type) where
  lower : α
  upper : α
deriving DecidableEq, Repr

/-! ## The part -/

/-- All the state the spec gives the LF-4, block by block (00_scope, Block diagram). -/
structure Block where
  links     : PerLink LinkRec
  notices   : PerLink NoticeRec
  cond      : ConditionRec
  config    : ConfigSet
  resetHeld : Bool
  chambers  : Vector Chamber 4
  sections  : Vector Section 5
  tick      : TickRec
  quals     : Vector Qualifier 40
  timers    : Vector SectionTimers 5
  flasher   : Flasher
  drives    : Vector DriveLatches 5
  lamps     : PerSide LampLatches
  vessels   : Vector Vessel 16
  queues    : PerSide (List (Fin 16))
  lists     : Vector (List (Fin 16)) 4
  signals   : PerSide Signal
  tariff    : Tariff
  acct      : Account
deriving DecidableEq, Repr

end Sys2Proof
end

