-- ==== Sys2Proof/Config.lean ====
section
/-! DEFINITION. What is fixed for the part, and the one value the manual leaves open. -/
namespace Sys2Proof.Config

/-- FREE VALUE (log 6). "The payloads of the other replies carry the fields that their rules name, and their byte layout is not
fixed in this manual" (13, opening). No body: nothing can be proved about the bytes. -/
opaque replyLayout : Payload → List Byte

/-- "payload length, 0..48" (11 R186, R189). -/
def maxPayload : Nat := 48
/-- "ordered list of 0 to 3 request entries" (11 R183). -/
def requestDepth : Nat := 3
/-- "ordered list of 0 to 8 reply frames" (11 R183). -/
def replyDepth : Nat := 8
/-- "holds at most 8 vessels" and the reservation count "never exceeds 8" (05 R86). -/
def reservationLimit : Nat := 8
/-- "an ordered list of vessel slots, at most four" (07 R124). -/
def ratingDepth : Nat := 4
/-- "The journal holds at most 64 records" (09 R161). -/
def journalDepth : Nat := 64
/-- "The tariff store holds 2048 entries" (07 R118). -/
def storeSize : Nat := 2048
/-- "the lamp's settle count becomes 4" (06 R112). -/
def settleTicks : Nat := 4
/-- Transaction byte SEND, 5Eh (13 R200). -/
def sendByte : Byte := 0x5E
/-- Transaction byte COLLECT, C3h (13 R200). -/
def collectByte : Byte := 0xC3
/-- No-reply marker, FFh (13 R200). -/
def noReplyMarker : Byte := 0xFF

end Sys2Proof.Config
end

