-- ==== Sys2Proof/Syntax.lean ====
section
/-! DEFINITION. The commands: one constructor for each row of spec/opcode_table.json, in its order. A request row carries its
link, its tag and its arguments as they stand in the frame (13 R202, R203); the rows of events inside the part carry only which
input, section, link, side or lamp they are of. -/
namespace Sys2Proof

/-- A command. -/
inductive Instr where
  /-- POWER_ON_RESET (R181). -/
  | powerOnReset
  /-- WARM_RESET (R182). -/
  | warmReset
  /-- RESET_PIN_RELEASE (R182). -/
  | resetPinRelease
  /-- SEND (R186): the bytes shifted in after the transaction byte; judged when select becomes inactive. -/
  | send (lk : Link) (bytes : List Byte)
  /-- COLLECT (R189): `clocked` whole bytes are clocked after the transaction byte. -/
  | collect (lk : Link) (clocked : Nat)
  /-- IGNORED_TRANSACTION (R184): the transaction byte, absent when the transaction ended inside it, and the whole bytes after it. -/
  | ignoredTransaction (lk : Link) (byte : Option Byte) (rest : List Byte)
  /-- REQUEST_TAKEN (R188). -/
  | requestTaken (lk : Link)
  /-- CLAIM (R48). -/
  | claim (lk : Link) (tag : Byte) (k : Byte)
  /-- CANCEL_CLAIM (R50). -/
  | cancelClaim (lk : Link) (tag : Byte) (k : Byte)
  /-- RELEASE (R51). -/
  | release (lk : Link) (tag : Byte) (k : Byte)
  /-- TAKE_OVER (R53). -/
  | takeOver (lk : Link) (tag : Byte) (k : Byte)
  /-- OPEN_GATE (R27). -/
  | openGate (lk : Link) (tag : Byte) (k : Byte)
  /-- CLOSE_GATE (R28). -/
  | closeGate (lk : Link) (tag : Byte) (k : Byte)
  /-- STOP_GATE (R33). -/
  | stopGate (lk : Link) (tag : Byte) (k : Byte)
  /-- CLEAR_FAULT (R40). -/
  | clearFault (lk : Link) (tag : Byte) (k : Byte)
  /-- SET_MANUAL (R41). -/
  | setManual (lk : Link) (tag : Byte) (k : Byte)
  /-- SET_AUTO (R41). -/
  | setAuto (lk : Link) (tag : Byte) (k : Byte)
  /-- DRIVE_GATE_OPEN (R42). -/
  | driveGateOpen (lk : Link) (tag : Byte) (k : Byte)
  /-- DRIVE_GATE_CLOSE (R42). -/
  | driveGateClose (lk : Link) (tag : Byte) (k : Byte)
  /-- DRIVE_GATE_HALT (R42). -/
  | driveGateHalt (lk : Link) (tag : Byte) (k : Byte)
  /-- DRIVE_SLUICE_CRACK (R43). -/
  | driveSluiceCrack (lk : Link) (tag : Byte) (k : Byte)
  /-- DRIVE_SLUICE_FULL (R43). -/
  | driveSluiceFull (lk : Link) (tag : Byte) (k : Byte)
  /-- DRIVE_SLUICE_SHUT (R43). -/
  | driveSluiceShut (lk : Link) (tag : Byte) (k : Byte)
  /-- TRANSFER (R13). -/
  | transfer (lk : Link) (tag : Byte) (k : Byte)
  /-- ABORT_TRANSFER (R18). -/
  | abortTransfer (lk : Link) (tag : Byte) (k : Byte)
  /-- SURVEY (R7). -/
  | survey (lk : Link) (tag : Byte) (c : Byte)
  /-- SURVEY_ALL (R7). -/
  | surveyAll (lk : Link) (tag : Byte)
  /-- BOOK (R89). -/
  | book (lk : Link) (tag : Byte) (registration : W32) (length : W16) (direction : Byte) (operator : W16) (cls : Byte) (cargo : Byte)
  /-- CALL (R91). -/
  | call (lk : Link) (tag : Byte) (side : Byte)
  /-- UNCALL (R92). -/
  | uncall (lk : Link) (tag : Byte) (side : Byte)
  /-- DEFER (R93). -/
  | defer (lk : Link) (tag : Byte) (v : Byte)
  /-- ADVANCE (R94). -/
  | advance (lk : Link) (tag : Byte) (v : Byte)
  /-- WITHDRAW (R99). -/
  | withdraw (lk : Link) (tag : Byte) (v : Byte)
  /-- HOLD (R100). -/
  | hold (lk : Link) (tag : Byte) (v : Byte)
  /-- UNHOLD (R100). -/
  | unhold (lk : Link) (tag : Byte) (v : Byte)
  /-- RERATE (R101). -/
  | rerate (lk : Link) (tag : Byte) (v : Byte)
  /-- SET_SIGNAL_MODE (R110). -/
  | setSignalMode (lk : Link) (tag : Byte) (side : Byte) (mode : Byte)
  /-- SET_ASPECT (R111). -/
  | setAspect (lk : Link) (tag : Byte) (side : Byte) (aspect : Byte)
  /-- OPEN_SERVICE (R170). -/
  | openService (lk : Link) (tag : Byte)
  /-- END_SERVICE (R171). -/
  | endService (lk : Link) (tag : Byte)
  /-- STOP_ALL (R172). -/
  | stopAll (lk : Link) (tag : Byte)
  /-- RESUME (R175). -/
  | resume (lk : Link) (tag : Byte)
  /-- CONFIGURE (R177). -/
  | configure (lk : Link) (tag : Byte) (items : List ConfigItem)
  /-- WRITE_TARIFF (R119). -/
  | writeTariff (lk : Link) (tag : Byte) (i : W16) (entry : W64)
  /-- READ_TARIFF (R120). -/
  | readTariff (lk : Link) (tag : Byte) (i : W16)
  /-- SET_ROOT (R121). -/
  | setRoot (lk : Link) (tag : Byte) (r : W16)
  /-- SET_WINDOW (R123). -/
  | setWindow (lk : Link) (tag : Byte) (w : Byte) (enable : Byte) (base : W16) (mask : W16)
  /-- SET_FREEZE (R134). -/
  | setFreeze (lk : Link) (tag : Byte) (f : Byte)
  /-- FLUSH_ALL (R135). -/
  | flushAll (lk : Link) (tag : Byte)
  /-- FLUSH_NONSTANDING (R135). -/
  | flushNonstanding (lk : Link) (tag : Byte)
  /-- FLUSH_KEY (R135). -/
  | flushKey (lk : Link) (tag : Byte) (group : Byte) (cls : Byte) (cargo : Byte)
  /-- SET_CLOCK (R142). -/
  | setClock (lk : Link) (tag : Byte) (seconds : W32)
  /-- SET_LOCKAGE_CHARGE (R152). -/
  | setLockageCharge (lk : Link) (tag : Byte) (w : W16)
  /-- CLEAR_WRITE_OFF (R154). -/
  | clearWriteOff (lk : Link) (tag : Byte)
  /-- RELEASE_JOURNAL (R163). -/
  | releaseJournal (lk : Link) (tag : Byte) (seq : W32)
  /-- READ_SECTION (R25). -/
  | readSection (lk : Link) (tag : Byte) (k : Byte)
  /-- READ_CHAMBER (R103). -/
  | readChamber (lk : Link) (tag : Byte) (c : Byte)
  /-- READ_CHANNEL (R81). -/
  | readChannel (lk : Link) (tag : Byte) (c : Byte)
  /-- READ_VESSEL (R103). -/
  | readVessel (lk : Link) (tag : Byte) (v : Byte)
  /-- READ_QUEUE (R103). -/
  | readQueue (lk : Link) (tag : Byte) (side : Byte)
  /-- READ_SIGNAL (R116). -/
  | readSignal (lk : Link) (tag : Byte) (side : Byte)
  /-- READ_RATE_CACHE (R136). -/
  | readRateCache (lk : Link) (tag : Byte) (set : Byte)
  /-- READ_RATING_STATE (R138). -/
  | readRatingState (lk : Link) (tag : Byte)
  /-- READ_METERS (R148). -/
  | readMeters (lk : Link) (tag : Byte)
  /-- READ_WRITE_OFF (R154). -/
  | readWriteOff (lk : Link) (tag : Byte)
  /-- READ_JOURNAL (R162). -/
  | readJournal (lk : Link) (tag : Byte) (seq : Option W32)
  /-- READ_CONFIG (R180). -/
  | readConfig (lk : Link) (tag : Byte) (part : Byte) (index : Byte)
  /-- FETCH_NOTICE (R197). -/
  | fetchNotice (lk : Link) (tag : Byte)
  /-- SET_NOTICE_LEVEL (R198). -/
  | setNoticeLevel (lk : Link) (tag : Byte) (pairs : List (Byte × Byte))
  /-- SET_URGENT (R198). -/
  | setUrgent (lk : Link) (tag : Byte) (slot : Byte) (enable : Byte) (kind : Byte)
  /-- SET_LINE_THRESHOLD (R198). -/
  | setLineThreshold (lk : Link) (tag : Byte) (threshold : Byte)
  /-- READ_NOTICE_STATE (R198). -/
  | readNoticeState (lk : Link) (tag : Byte)
  /-- MOTION_TICK (R63): `pins` in the order of `Input`; the arrivals of `first` are taken before the count steps of this tick (R74). -/
  | motionTick (pins : Vector Bool 40) (first : List Input)
  /-- FLIGHT_CLOCK_ADVANCE (R140). -/
  | flightClockAdvance
  /-- LEASE_EXPIRY (R57). -/
  | leaseExpiry (lk : Link)
  /-- LIMIT_ARRIVAL (R39). -/
  | limitArrival (k : Fin 5) (which : LimitSwitch)
  /-- BEAM_ARRIVAL (R36). -/
  | beamArrival (k : Fin 5)
  /-- HEAD_SENSOR_ARRIVAL (R9). -/
  | headSensorArrival (k : Fin 5)
  /-- PADDLE_SHUT_ARRIVAL (R19). -/
  | paddleShutArrival (k : Fin 5)
  /-- FLOAT_ARRIVAL (R6). -/
  | floatArrival (c : Fin 4) (which : FloatSwitch)
  /-- BAND_ARRIVAL (R4). -/
  | bandArrival (side : Side)
  /-- LAMP_PROVING_ARRIVAL (R112). -/
  | lampProvingArrival (side : Side) (lamp : Lamp)
  /-- ESTOP_ARRIVAL (R173). -/
  | estopArrival
  /-- ENCODER_PULSE (R68). -/
  | encoderPulse (k : Fin 5)
  /-- ZERO (R32). -/
  | zero (k : Fin 5)
  /-- STALL_EXPIRY (R34). -/
  | stallExpiry (k : Fin 5)
  /-- COMPARE (R15). -/
  | compare (k : Fin 5)
  /-- EXPIRY_LIMIT (R17). -/
  | expiryLimit (k : Fin 5)
  /-- EXPIRY_SHUT (R20). -/
  | expiryShut (k : Fin 5)
  /-- FLASHER_PHASE_CHANGE (R76). -/
  | flasherPhaseChange
  /-- LAMP_SETTLE_EXPIRY (R112). -/
  | lampSettleExpiry (side : Side) (lamp : Lamp)
  /-- RATING_HEAD_TAKEN (R124). -/
  | ratingHeadTaken
  /-- WALK_ACCESS_COMPLETE (R126). -/
  | walkAccessComplete
  /-- TARIFF_WRITE_COMPLETE (R119). -/
  | tariffWriteComplete
  /-- TARIFF_READ_COMPLETE (R120). -/
  | tariffReadComplete
deriving DecidableEq, Repr

end Sys2Proof
end

