-- ==== Sys2Proof/WellFormed.lean ====
section
/-! DEFINITION. Which commands a station or the field can send: a transaction is ignored for its first byte or for want of a frame, a
frame spells only so many items, and a tick takes each arrival once. The types of the operands say the rest. -/
namespace Sys2Proof

/-- Whether a transaction is ignored: "any other value" of the transaction byte, a SEND "with no byte after the transaction byte", or a
transaction byte that was not shifted in whole, which no byte follows (11 R184, R186). -/
def ignoredBytes (byte : Option Byte) (rest : List Byte) : Bool :=
  match byte with
  | none => rest.isEmpty
  | some x => x != Config.collectByte && (x != Config.sendByte || rest.isEmpty)

/-- An IGNORED_TRANSACTION is no SEND of a frame and no COLLECT (11 R184). A CONFIGURE carries 1 to 12 items (10 R177), and a SET NOTICE
LEVEL 1 to 16 pairs (11 R198). A tick names an input once at most (04 R65: each input has its own qualifier). Every operand of another
command is in range by its type. -/
def Instr.wellFormed (i : Instr) : Bool :=
  match i with
  | .ignoredTransaction _ byte rest => ignoredBytes byte rest
  | .configure _ _ items => decide (1 ≤ items.length) && decide (items.length ≤ 12)
  | .setNoticeLevel _ _ pairs => decide (1 ≤ pairs.length) && decide (pairs.length ≤ 16)
  | .motionTick _ first => decide first.Nodup
  | _ => true

end Sys2Proof
end

