-- ==== Sys2Proof/Decode.lean ====
section
/-! DEFINITION. spec/opcode_table.json gives no row any bits (every "fields" is empty), so no word spells a command. The frames of
the links are decoded in Machine/Links.lean, which is part of REQUEST_TAKEN (11 R188). -/
namespace Sys2Proof

/-- No row of the table gives bits. -/
def decodeTableWord (_nbits _w : Nat) : Option Instr := none

end Sys2Proof
end

