-- ==== Sys2Proof/Machine/PowerOn.lean ====
section
/-! DEFINITION. The values of a power-on reset, block by block (10 R181 and the reset rule of each chapter). -/
namespace Sys2Proof.Machine

/-- 03 R55. -/
def leasePowerOn : Lease := { period := 0, action := .keep, state := .off, counter := 0 }

/-- 11 R183. -/
def linkPowerOn : LinkRec :=
  { requests := [], inHand := false, replies := [], dropped := false, lease := leasePowerOn, out := [] }

/-- 11 R194: "every level of every link is 0, both urgent slots of every link are disabled with kind 0, every line threshold is 1,
no entry is pending". -/
def noticePowerOn : NoticeRec :=
  { levels := Vector.replicate 16 0, urgent0 := { enable := false, kind := 0 }, urgent1 := { enable := false, kind := 0 },
    threshold := 1, entries := Vector.replicate 16 none }

/-- 10 R168. -/
def conditionPowerOn : ConditionRec := { condition := .setup, lastCause := .powerOn, causeLink := none, admissions := 0 }

/-- The power-on column of 10 R178. -/
def configPowerOn : ConfigSet :=
  { n := 4,
    chambers := Vector.replicate 4 { usable := 1100, limit := 2 },
    sections := Vector.replicate 5 { stroke := 1200, margin := 40, stallTicks := 20, crackDelay := 30, transferLimit := 9000, minTransfer := 300, shutLimit := 100 },
    flashHalf := 5, threshold := 48 }

/-- 01 R5. -/
def chamberPowerOn : Chamber := { state := .unknown, lockages := 0, emptyLockages := 0 }

/-- 02 R46 with 03 R47 and 01 R12; also the section record restored when N rises. -/
def sectionReset : Section :=
  { holder := none, waiter := none, orphan := false, mode := .auto, gate := .stopped, position := none, travel := .closes, sluice := .shutting,
    transfer := none, lastTicks := 0, fault := none }

/-- 04 R67: "every qualifier holds no qualified state and no previous sample". -/
def qualifierReset : Qualifier := { state := none, prev := none, raised := none }

/-- 04 R82: "IDLE, values 0". -/
def channelPowerOn : Channel := { state := .idle, count := 0, reload := 0, compare := 0, limit := 0, capture := 0, dir := .up }

/-- 04 R75: "SHUT START sets the count to the shut limit the owner gives, makes that limit the reload value, sets the direction to
DOWN and makes the channel RUNNING at once". -/
def Channel.shutStart (limit : Nat) (ch : Channel) : Channel :=
  { ch with state := .running, count := limit, reload := limit, dir := .down }

/-- 04 R82: channels IDLE, then a SHUT START on the transfer channel, with the power-on shut limit. -/
def timersPowerOn : SectionTimers :=
  { stroke := channelPowerOn, stall := channelPowerOn, transfer := Channel.shutStart 100 channelPowerOn }

/-- 04 R76: the start of channel 15, "the phase is ON and the channel is RUNNING". -/
def flasherStart (half : Nat) : Flasher :=
  { channel := { state := .running, count := half, reload := half, compare := 0, limit := 0, capture := 0, dir := .up }, on := true }

/-- 04 R82: all drive latches reset. -/
def drivesReset : DriveLatches := { gateOpen := false, gateClose := false, paddleCrack := false, paddleFull := false }

/-- 06 R117: the RED latch set once the reset has reset the lamp latches. -/
def lampsRed : LampLatches := { red := true, green := false }

/-- 04 R82, 10 R182: both lamp latches reset, as they stay while the RESET pin is held. -/
def lampsDark : LampLatches := { red := false, green := false }

/-- 05 R83: a FREE slot's "other fields are absent or 0". -/
def vesselFree : Vessel :=
  { state := .free, registration := 0, length := 0, direction := .up, operator := 0, cls := 0, cargo := 0, rateStatus := .pending, rate := none,
    officeHold := false, position := .none, admission := none, meter := none, passageFee := 0, lockageCount := 0, lockageTotal := 0,
    dwellMinutes := 0, dwellCharge := 0, booked := 0, admitted := none, exited := none, bookedBy := none, withdrawn := false }

/-- 06 R117. -/
def signalReset : Signal :=
  { mode := .auto, aspect := .closed, preset := .stop, redState := .proven, greenState := .proven, redStage := .flashing, greenStage := .dark,
    redSettle := 0, greenSettle := 0, proof := false, firstCycle := true }

/-- 07 R131: every way invalid and the use order empty. -/
def cacheSetEmpty : CacheSet := { ways := Vector.replicate 4 none, order := [] }

/-- 07 R139. -/
def tariffPowerOn : Tariff :=
  { store := [], root := 0, windows := Vector.replicate 2 { enable := false, base := 0, mask := 0 }, freeze := false, queue := [],
    engine := .idle, walk := none, cache := Vector.replicate 4 cacheSetEmpty, lastServed := .link, access := none }

/-- 08 R143: "FREE with count 0 and no owner". -/
def meterFree : Meter := { state := .free, minutes := 0, owner := none }

/-- 08 R156, 09 R167. -/
def accountPowerOn : Account :=
  { clock := 0, meters := Vector.replicate 8 meterFree, charge := 0, writeOff := 0, closing := [], journal := [], nextSeq := 1 }

/-- The part after a power-on reset with the RESET pin held or not. While it is held the RED latches wait for its release
(06 R117, 10 R182). -/
def blockPowerOn (held : Bool) : Block :=
  { links := { u := linkPowerOn, l := linkPowerOn, t := linkPowerOn },
    notices := { u := noticePowerOn, l := noticePowerOn, t := noticePowerOn },
    cond := conditionPowerOn, config := configPowerOn, resetHeld := held,
    chambers := Vector.replicate 4 chamberPowerOn, sections := Vector.replicate 5 sectionReset,
    tick := { number := 0, secondDue := false }, quals := Vector.replicate 40 qualifierReset,
    timers := Vector.replicate 5 timersPowerOn, flasher := flasherStart 5, drives := Vector.replicate 5 drivesReset,
    lamps := if held then { lower := lampsDark, upper := lampsDark } else { lower := lampsRed, upper := lampsRed },
    vessels := Vector.replicate 16 vesselFree, queues := { lower := [], upper := [] }, lists := Vector.replicate 4 [],
    signals := { lower := signalReset, upper := signalReset }, tariff := tariffPowerOn, acct := accountPowerOn }

end Sys2Proof.Machine
end

