-- ==== Sys2Proof/Machine/State.lean ====
section
/-! DEFINITION. The state of the machine: all the state of the part (`Block`, Sys2Proof/Records.lean) and the queue of commands
that wait, first in first out. -/
namespace Sys2Proof.Machine

/-- No command of the LF-4 stops the machine: what cannot be done is answered with an outcome code (11 R191), and what goes wrong in
the field is state and notices. So there is no fault to raise; safe. -/
inductive Fault where
deriving DecidableEq, Repr

/-- Refusals. -/
inductive Refusal where
  /-- Raised by exec's own arm for a command that has no meaning yet; safe, since the run stops there. -/
  | notModelled (mnemonic : String)
deriving DecidableEq, Repr

/-- The machine: the part's blocks, and the queue of waiting commands, the next one first. -/
structure State extends Block where
  pending : List Instr
deriving DecidableEq, Repr

/-- The machine after a power-on reset with the RESET pin released (10 R181). The queue is empty (log 18). -/
def State.reset : State := { toBlock := blockPowerOn false, pending := [] }

end Sys2Proof.Machine
end

