-- ==== Sys2Proof/Machine/Ops.lean ====
section
/-! DEFINITION. The shared operations: reading and writing the records, latches, timer channels, the tariff store, raising a
notice, bytes and CRC-8, and the taking and answering of a request. -/
namespace Sys2Proof

/-! ## One thing for each link or side -/

/-- The thing of link `lk`. -/
def PerLink.get {α : Type} (p : PerLink α) (lk : Link) : α :=
  match lk with
  | .u => p.u
  | .l => p.l
  | .t => p.t

/-- `p` with the thing of link `lk` replaced. -/
def PerLink.set {α : Type} (p : PerLink α) (lk : Link) (x : α) : PerLink α :=
  match lk with
  | .u => { p with u := x }
  | .l => { p with l := x }
  | .t => { p with t := x }

/-- The thing of `side`. -/
def PerSide.get {α : Type} (p : PerSide α) (side : Side) : α :=
  match side with
  | .lower => p.lower
  | .upper => p.upper

/-- `p` with the thing of `side` replaced. -/
def PerSide.set {α : Type} (p : PerSide α) (side : Side) (x : α) : PerSide α :=
  match side with
  | .lower => { p with lower := x }
  | .upper => { p with upper := x }

/-- The three links in order. -/
def Link.all : List Link := [.u, .l, .t]
/-- The two sides in order. -/
def Side.all : List Side := [.lower, .upper]
/-- Sections 0 to 4 in order. -/
def sectionsAll : List (Fin 5) := [0, 1, 2, 3, 4]
/-- Chambers C1 to C4 in order. -/
def chambersAll : List (Fin 4) := [0, 1, 2, 3]
/-- Slots 0 to 15 in order. -/
def slotsAll : List (Fin 16) := [0, 1, 2, 3, 4, 5, 6, 7, 8, 9, 10, 11, 12, 13, 14, 15]
/-- Meters 0 to 7 in order. -/
def metersAll : List (Fin 8) := [0, 1, 2, 3, 4, 5, 6, 7]

/-! ## Reading and writing the records: every read and write of a record goes through these -/

def Block.link (b : Block) (lk : Link) : LinkRec := b.links.get lk
def Block.setLink (b : Block) (lk : Link) (x : LinkRec) : Block := { b with links := b.links.set lk x }
def Block.notice (b : Block) (lk : Link) : NoticeRec := b.notices.get lk
def Block.setNotice (b : Block) (lk : Link) (x : NoticeRec) : Block := { b with notices := b.notices.set lk x }
def Block.setCond (b : Block) (x : ConditionRec) : Block := { b with cond := x }
def Block.setConfig (b : Block) (x : ConfigSet) : Block := { b with config := x }
def Block.setHeld (b : Block) (x : Bool) : Block := { b with resetHeld := x }
def Block.chamber (b : Block) (c : Fin 4) : Chamber := b.chambers[c]
def Block.setChamber (b : Block) (c : Fin 4) (x : Chamber) : Block := { b with chambers := b.chambers.set c x }
def Block.sec (b : Block) (k : Fin 5) : Section := b.sections[k]
def Block.setSec (b : Block) (k : Fin 5) (x : Section) : Block := { b with sections := b.sections.set k x }
def Block.setTick (b : Block) (x : TickRec) : Block := { b with tick := x }
def Block.timer (b : Block) (k : Fin 5) : SectionTimers := b.timers[k]
def Block.setTimer (b : Block) (k : Fin 5) (x : SectionTimers) : Block := { b with timers := b.timers.set k x }
def Block.setFlasher (b : Block) (x : Flasher) : Block := { b with flasher := x }
def Block.drive (b : Block) (k : Fin 5) : DriveLatches := b.drives[k]
def Block.setDrive (b : Block) (k : Fin 5) (x : DriveLatches) : Block := { b with drives := b.drives.set k x }
def Block.lamp (b : Block) (side : Side) : LampLatches := b.lamps.get side
def Block.setLamp (b : Block) (side : Side) (x : LampLatches) : Block := { b with lamps := b.lamps.set side x }
def Block.vessel (b : Block) (v : Fin 16) : Vessel := b.vessels[v]
def Block.setVessel (b : Block) (v : Fin 16) (x : Vessel) : Block := { b with vessels := b.vessels.set v x }
def Block.queue (b : Block) (side : Side) : List (Fin 16) := b.queues.get side
def Block.setQueue (b : Block) (side : Side) (x : List (Fin 16)) : Block := { b with queues := b.queues.set side x }
def Block.list (b : Block) (c : Fin 4) : List (Fin 16) := b.lists[c]
def Block.setList (b : Block) (c : Fin 4) (x : List (Fin 16)) : Block := { b with lists := b.lists.set c x }
def Block.signal (b : Block) (side : Side) : Signal := b.signals.get side
def Block.setSignal (b : Block) (side : Side) (x : Signal) : Block := { b with signals := b.signals.set side x }
def Block.setTariff (b : Block) (x : Tariff) : Block := { b with tariff := x }
def Block.setAcct (b : Block) (x : Account) : Block := { b with acct := x }
def Block.meter (b : Block) (m : Fin 8) : Meter := b.acct.meters[m]
def Block.setMeter (b : Block) (m : Fin 8) (x : Meter) : Block := b.setAcct { b.acct with meters := b.acct.meters.set m x }

/-- The flight clock (08 R140), which every stamp takes. -/
def Block.clock (b : Block) : W32 := b.acct.clock
/-- N (10 R178), also the number of the upper end section. -/
def Block.n (b : Block) : Fin 5 := b.config.n
/-- The sections 0..N in order. -/
def Block.secsIn (b : Block) : List (Fin 5) := sectionsAll.filter fun k => decide (k ≤ b.n)
/-- The chambers C1..CN in order. -/
def Block.chambersIn (b : Block) : List (Fin 4) := chambersAll.filter fun c => decide (c.val < b.n.val)

/-! ## Qualified inputs (04 R65) -/

/-- The place of an input among the forty, in the order of 04 R65. -/
def Input.index (i : Input) : Fin 40 :=
  match i with
  | .openLimit k => ⟨k.val, by omega⟩
  | .closedLimit k => ⟨5 + k.val, by omega⟩
  | .beam k => ⟨10 + k.val, by omega⟩
  | .head k => ⟨15 + k.val, by omega⟩
  | .paddle k => ⟨20 + k.val, by omega⟩
  | .lowFloat c => ⟨25 + c.val, by omega⟩
  | .highFloat c => ⟨29 + c.val, by omega⟩
  | .band .lower => 33
  | .band .upper => 34
  | .redProving .lower => 35
  | .redProving .upper => 36
  | .greenProving .lower => 37
  | .greenProving .upper => 38
  | .estop => 39

/-- The forty inputs in order. -/
def Input.all : List Input :=
  sectionsAll.map .openLimit ++ sectionsAll.map .closedLimit ++ sectionsAll.map .beam ++ sectionsAll.map .head ++
  sectionsAll.map .paddle ++ chambersAll.map .lowFloat ++ chambersAll.map .highFloat ++ Side.all.map .band ++
  Side.all.map .redProving ++ Side.all.map .greenProving ++ [.estop]

def Block.qual (b : Block) (i : Input) : Qualifier := b.quals[i.index]
def Block.setQual (b : Block) (i : Input) (x : Qualifier) : Block := { b with quals := b.quals.set i.index x }
/-- "The qualified state is what every block reads as the present value of the input" (04 R65); absent before the first reading. -/
def Block.reading (b : Block) (i : Input) : Option Bool := (b.qual i).state

/-- One sample (04 R65, R67): an arrival is made when the new sample equals the previous one and differs from the qualified state;
the new sample becomes the previous one. -/
def Qualifier.sample (x : Bool) (q : Qualifier) : Qualifier :=
  { q with prev := some x, raised := if q.prev = some x ∧ q.state ≠ some x then some x else none }

/-! ## Latches (04 R77 to R79) -/

def latchNone : DriveLatches := { gateOpen := false, gateClose := false, paddleCrack := false, paddleFull := false }
def latchGateOpen : DriveLatches := { latchNone with gateOpen := true }
def latchGateClose : DriveLatches := { latchNone with gateClose := true }
def latchGates : DriveLatches := { latchNone with gateOpen := true, gateClose := true }
def latchCrack : DriveLatches := { latchNone with paddleCrack := true }
def latchFull : DriveLatches := { latchNone with paddleFull := true }
def latchPaddles : DriveLatches := { latchNone with paddleCrack := true, paddleFull := true }
def latchAll : DriveLatches := { gateOpen := true, gateClose := true, paddleCrack := true, paddleFull := true }

/-- The set and reset requests of one event, applied together: reset wins, and a set of one gate latch is a reset of the other
(04 R78). -/
def DriveLatches.apply (set reset d : DriveLatches) : DriveLatches :=
  { gateOpen := (d.gateOpen || set.gateOpen) && !(reset.gateOpen || set.gateClose),
    gateClose := (d.gateClose || set.gateClose) && !(reset.gateClose || set.gateOpen),
    paddleCrack := (d.paddleCrack || set.paddleCrack) && !reset.paddleCrack,
    paddleFull := (d.paddleFull || set.paddleFull) && !reset.paddleFull }

/-- The latch requests of one event at section `k`. -/
def Block.latch (b : Block) (k : Fin 5) (set reset : DriveLatches) : Block := b.setDrive k (DriveLatches.apply set reset (b.drive k))

/-! ## Timer channels (04 R69 to R76) -/

/-- STOP: "STOP makes a channel IDLE", its values kept (04 R69, R70). -/
def Channel.stop (ch : Channel) : Channel := { ch with state := .idle }

/-- The start of a STROKE channel (04 R71). -/
def Channel.strokeStart (load : Nat) (ch : Channel) : Channel := { ch with state := .running, count := load, reload := load }

/-- The start of a STALL channel (04 R72). It keeps its old count while STARTING, until the next tick gives it one: the model's choice (log 40). -/
def Channel.stallStart (ticks : Nat) (ch : Channel) : Channel := { ch with state := .starting, reload := ticks }

/-- The start of a TRANSFER channel (04 R73). It too keeps its old count while STARTING (log 40). -/
def Channel.transferStart (crackDelay transferLimit shutLimit : Nat) (ch : Channel) : Channel :=
  { ch with state := .starting, reload := shutLimit, compare := crackDelay, limit := transferLimit, capture := 0, dir := .up }

/-- One motion tick at a STALL channel (04 R72). -/
def Channel.stallTick (ch : Channel) : Channel :=
  match ch.state with
  | .starting => { ch with state := .running, count := ch.reload }
  | .running => if ch.count ≤ 1 then { ch with state := .ended, count := 0 } else { ch with count := ch.count - 1 }
  | _ => ch

/-- The limit test made each time the count is set or raised in UP (04 R73). -/
def Channel.limitTest (ch : Channel) : Channel := if ch.count = ch.limit then { ch with count := ch.reload, dir := .down } else ch

/-- One motion tick at a TRANSFER channel (04 R73, R75). -/
def Channel.transferTick (ch : Channel) : Channel :=
  match ch.state, ch.dir with
  | .starting, _ => Channel.limitTest { ch with state := .running, count := 0 }
  | .running, .up => Channel.limitTest { ch with count := ch.count + 1 }
  | .running, .down => if ch.count ≤ 1 then { ch with state := .ended, count := 0 } else { ch with count := ch.count - 1 }
  | _, _ => ch

/-- One encoder pulse at a STROKE channel (04 R71). -/
def Channel.strokePulse (ch : Channel) : Channel :=
  if ch.state = .running then
    (if ch.count ≤ 1 then { ch with state := .ended, count := 0 } else { ch with count := ch.count - 1 })
  else ch

/-- One encoder pulse at a STALL channel (04 R72). -/
def Channel.stallPulse (ch : Channel) : Channel := if ch.state = .running then { ch with count := ch.reload } else ch

/-- The count a LEVEL arrival captures, if the channel captures at all (04 R74). -/
def Channel.captureOf (ch : Channel) : Option Nat :=
  match ch.state, ch.dir with
  | .starting, _ => some 0
  | .running, .up => some ch.count
  | _, _ => none

/-- The channel after it has captured `n` (04 R74). -/
def Channel.captured (n : Nat) (ch : Channel) : Channel :=
  { ch with state := .running, count := ch.reload, capture := n, dir := .down }

/-! ## The tariff store (07 R118) -/

/-- An entry of the store; one that is not listed reads as 0. -/
def storeRead (store : List (Nat × W64)) (i : Nat) : W64 :=
  match store with
  | [] => 0
  | (j, w) :: rest => if i = j then w else storeRead rest i

/-- Writes an entry and keeps the canonical form: indices rising, no entry 0. -/
def storeWrite (store : List (Nat × W64)) (i : Nat) (x : W64) : List (Nat × W64) :=
  match store with
  | [] => if x = 0 then [] else [(i, x)]
  | (j, w) :: rest =>
    if i < j then (if x = 0 then (j, w) :: rest else (i, x) :: (j, w) :: rest)
    else if i = j then (if x = 0 then rest else (i, x) :: rest)
    else (j, w) :: storeWrite rest i x

/-- The canonical form above a bound: indices at `lo` or more and rising, no entry 0. -/
def storeWfFrom (lo : Nat) (store : List (Nat × W64)) : Bool :=
  match store with
  | [] => true
  | (j, w) :: rest => decide (lo ≤ j) && decide (w ≠ 0) && storeWfFrom (j + 1) rest

/-- The canonical form of the store. -/
def storeWf (store : List (Nat × W64)) : Bool := storeWfFrom 0 store

/-- Kind of an entry: bits 63..62 (13 R204). -/
def entryKind (e : W64) : EntryKind :=
  match (e.extractLsb' 62 2).toNat with
  | 0 => .invalid
  | 1 => .table
  | 2 => .rate
  | _ => .indirect

/-- Used mark: bit 61 (13 R204). -/
def entryUsed (e : W64) : Bool := e.getLsbD 61
/-- Hold of a TABLE: bit 60. -/
def entryHold (e : W64) : Bool := e.getLsbD 60
/-- Exempt mark of a RATE: bit 60. -/
def entryExempt (e : W64) : Bool := e.getLsbD 60
/-- Standing mark of a RATE: bit 59. -/
def entryStanding (e : W64) : Bool := e.getLsbD 59
/-- Base fee of a RATE: bits 58..43. -/
def entryBaseFee (e : W64) : Nat := (e.extractLsb' 43 16).toNat
/-- Surcharge percent of a TABLE: bits 47..40. -/
def entrySurcharge (e : W64) : Nat := (e.extractLsb' 40 8).toNat
/-- Per-metre fee of a RATE: bits 42..31. -/
def entryPerMetre (e : W64) : Nat := (e.extractLsb' 31 12).toNat
/-- Dwell rate of a RATE: bits 30..21. -/
def entryDwellRate (e : W64) : Nat := (e.extractLsb' 21 10).toNat
/-- Free minutes of a RATE: bits 20..13. -/
def entryFreeMinutes (e : W64) : Nat := (e.extractLsb' 13 8).toNat
/-- Next-table base of a TABLE, target index of an INDIRECT: bits 10..0. -/
def entryIndex (e : W64) : Nat := (e.extractLsb' 0 11).toNat
/-- "A write-back sets that bit and leaves the other 63 bits as they stand" (13 R204). -/
def entryMarkUsed (e : W64) : W64 := e ||| (1#64 <<< 61)

/-! ## Notices (11 R193 to R195) -/

/-- The number of a notice's kind (11 R193). -/
def Notice.kind (n : Notice) : Fin 16 :=
  match n with
  | .gateDone _ _ => 0
  | .gateFault _ _ => 1
  | .transferDone _ _ => 2
  | .transferFault _ _ => 3
  | .levelFault _ => 4
  | .lineBlocked _ => 5
  | .claimGranted _ _ _ => 6
  | .leaseLapsed _ => 7
  | .vesselRated _ _ => 8
  | .vesselCleared _ _ => 9
  | .lampFault _ _ => 10
  | .reachChange _ _ => 11
  | .journalThreshold _ _ => 12
  | .journalFull _ _ => 13
  | .conditionChange _ _ _ _ => 14
  | .estop _ => 15

/-- What one link records of a raising (11 R195). -/
def NoticeRec.record (n : Notice) (r : NoticeRec) : NoticeRec :=
  if r.levels[n.kind] = 0 then r
  else { r with entries := r.entries.set n.kind (some { notice := n, overrun := (r.entries[n.kind]).isSome }) }

/-- "Each raising is offered, in the event that raises it, to all three links at once" (11 R193). -/
def Block.raise (b : Block) (n : Notice) : Block :=
  { b with notices := { u := b.notices.u.record n, l := b.notices.l.record n, t := b.notices.t.record n } }

/-! ## Bytes, most significant first (13, opening), and the check byte (11 R187) -/

def bytesOf16 (w : W16) : List Byte := [w.extractLsb' 8 8, w.extractLsb' 0 8]
def bytesOf32 (w : W32) : List Byte := [w.extractLsb' 24 8, w.extractLsb' 16 8, w.extractLsb' 8 8, w.extractLsb' 0 8]
def bytesOf64 (w : W64) : List Byte :=
  [w.extractLsb' 56 8, w.extractLsb' 48 8, w.extractLsb' 40 8, w.extractLsb' 32 8,
   w.extractLsb' 24 8, w.extractLsb' 16 8, w.extractLsb' 8 8, w.extractLsb' 0 8]
def word16 (b1 b0 : Byte) : W16 := b1 ++ b0
def word32 (b3 b2 b1 b0 : Byte) : W32 := word16 b3 b2 ++ word16 b1 b0
def word64 (b7 b6 b5 b4 b3 b2 b1 b0 : Byte) : W64 := word32 b7 b6 b5 b4 ++ word32 b3 b2 b1 b0
def byteOf (n : Nat) : Byte := BitVec.ofNat 8 n
def markByte (x : Bool) : Byte := if x then 1 else 0

/-- One bit of the division by x⁸ + x² + x + 1 (11 R187). -/
def crcBit (c : Byte) : Byte := if c.getLsbD 7 then (c <<< 1) ^^^ 0x07#8 else c <<< 1
/-- One byte of the division. -/
def crcByte (c x : Byte) : Byte := crcBit (crcBit (crcBit (crcBit (crcBit (crcBit (crcBit (crcBit (c ^^^ x))))))))
/-- CRC-8 with initial value 0 (11 R187). -/
def crc8 (bytes : List Byte) : Byte := bytes.foldl crcByte 0

/-! ## Requests: what an owner answers, and how a reply is queued (11 R183, R188) -/

/-- What the owner of a request decides: the reply, unless it comes at a later store access (R188), and the state after. -/
structure Answer where
  reply : Option (OutcomeCode × Payload)
  after : Block
deriving DecidableEq, Repr

/-- An outcome with no payload. -/
def Answer.plain (o : OutcomeCode) (b : Block) : Answer := { reply := some (o, .none), after := b }
/-- An outcome whose reply names what failed (11 R191). -/
def Answer.naming (o : OutcomeCode) (p : Payload) (b : Block) : Answer := { reply := some (o, p), after := b }
/-- DONE with a payload. -/
def Answer.done (p : Payload) (b : Block) : Answer := { reply := some (.done, p), after := b }
/-- The reply comes at the completion of a store access. -/
def Answer.later (b : Block) : Answer := { reply := none, after := b }

/-- A reply appended at the tail of a link's reply queue (11 R188). -/
def Block.reply (b : Block) (lk : Link) (f : ReplyFrame) : Block :=
  let r := b.link lk
  b.setLink lk { r with replies := r.replies ++ [f] }

/-- "The reply is appended at the tail of the reply queue, and the request leaves the request queue", the in-hand mark cleared
(11 R183, R188). -/
def Block.queueReply (b : Block) (lk : Link) (f : ReplyFrame) : Block :=
  let r := b.link lk
  b.setLink lk { r with requests := r.requests.drop 1, inHand := false, replies := r.replies ++ [f] }

/-- Marks the head request of a link as in hand (11 R188). -/
def Block.markInHand (b : Block) (lk : Link) : Block := b.setLink lk { b.link lk with inHand := true }

/-- Hands the request at the head of a link's queue to its owner. A reply that comes now leaves the link with nothing in hand, as it
was; the request whose reply comes later stays at the head, in hand (11 R183, R188). -/
def Block.serve (b : Block) (lk : Link) (code tag : Byte) (own : Block → Answer) : Block :=
  let a := own b
  match a.reply with
  | some (o, p) => a.after.queueReply lk { code := code, tag := tag, outcome := o, payload := p }
  | none => a.after.markInHand lk

/-- Whether a request may be sent by a link: the table of 11 R190, by request code. -/
def permitted (code : Byte) (lk : Link) : Bool :=
  if 0x90 ≤ code.toNat then true
  else if (0x46 ≤ code.toNat && code.toNat ≤ 0x48) || 0x70 ≤ code.toNat then lk == .t
  else lk != .t

/-- Whether a link could take a request of its station at once: nothing waits or is in hand, the reply queue has room and the
RESET pin is released (11 R188, 10 R182). -/
def Block.linkReady (b : Block) (lk : Link) : Bool :=
  decide ((b.link lk).requests = []) && !(b.link lk).inHand && decide ((b.link lk).replies.length < Config.replyDepth) && !b.resetHeld

/-- A request whose frame stands alone in its link's queue, taken at once: it leaves the queue with its reply, or stays there in hand
(11 R188). -/
def Block.serveAlone (b : Block) (lk : Link) (code tag : Byte) (payload : List Byte) (own : Block → Answer) : Block :=
  let a := own b
  match a.reply with
  | some (o, p) => a.after.reply lk { code := code, tag := tag, outcome := o, payload := p }
  | none => a.after.setLink lk { a.after.link lk with requests := [.good code tag payload], inHand := true }

/-- The row of a request: taken, judged for permission and handed to its owner, as R188 gives. A link that could not take it at once
takes nothing (log 3). -/
def Block.request (b : Block) (lk : Link) (code tag : Byte) (payload : List Byte) (own : Block → Answer) : Block :=
  if b.linkReady lk then
    b.serveAlone lk code tag payload (fun b => if permitted code lk then own b else Answer.plain .notPermitted b)
  else b

/-- Runs an operation of the part on the machine. -/
def Machine.State.act (s : Machine.State) (f : Block → Block) : Host.Outcome Machine.State Machine.Fault Machine.Refusal :=
  .next { s with toBlock := f s.toBlock }

end Sys2Proof
end

