-- ==== Sys2Proof/Machine/Flags.lean ====
section
/-! DEFINITION. What is computed from the state and never stored twice: readings, level and transfer rules, acceptance, holds,
counts, the NOTICE line and the status byte. -/
namespace Sys2Proof

/-! ## The flight's shape -/

/-- The chamber below gate and sluice k, Ck, where it exists (01, Level indices). -/
def Block.below (_b : Block) (k : Fin 5) : Option (Fin 4) := if h : 0 < k.val then some ⟨k.val - 1, by omega⟩ else none
/-- The chamber above gate and sluice k, Ck+1, where it exists. -/
def Block.above (b : Block) (k : Fin 5) : Option (Fin 4) := if h : k.val < b.n.val then some ⟨k.val, by omega⟩ else none
/-- The chambers beside gate and sluice k, in ascending order. -/
def Block.beside (b : Block) (k : Fin 5) : List (Fin 4) := (b.below k).toList ++ (b.above k).toList
/-- Sections k-1, k and k+1, wherever they exist. -/
def Block.nearSections (b : Block) (k : Fin 5) : List (Fin 5) :=
  b.secsIn.filter fun j => decide (j.val = k.val ∨ j.val + 1 = k.val ∨ j.val = k.val + 1)
/-- The end section of a side: section 0 and section N (02 R27). -/
def Block.endSection (b : Block) (side : Side) : Fin 5 :=
  match side with
  | .lower => 0
  | .upper => b.n
/-- The side of an end section. -/
def Block.sideOf (b : Block) (k : Fin 5) : Option Side := if k.val = 0 then some .lower else if k = b.n then some .upper else none
/-- The end chamber of a side: C1 and CN (05 R88). -/
def Block.endChamber (b : Block) (side : Side) : Fin 4 :=
  match side with
  | .lower => 0
  | .upper => ⟨b.n.val - 1, by omega⟩
/-- The gates of chamber Ck: Gk-1 and Gk (01 R8). -/
def gatesOf (c : Fin 4) : List (Fin 5) := [c.castSucc, c.succ]

/-! ## Readings -/

/-- Depth reading of a chamber (01 R6); absent while a float has no reading. -/
def Block.depth (b : Block) (c : Fin 4) : Option DepthReading :=
  match b.reading (.lowFloat c), b.reading (.highFloat c) with
  | some true, some false => some .low
  | some false, some false => some .mid
  | some false, some true => some .high
  | some true, some true => some .invalid
  | _, _ => none

/-- Band state of a reach; OUT_OF_BAND until the first reading (01 R4). -/
def Block.inBand (b : Block) (side : Side) : Bool := b.reading (.band side) == some true

/-- ESTOP state (10 R168, R173). -/
def Block.estopState (b : Block) : EstopState :=
  match b.reading .estop with
  | none => .noReading
  | some true => .asserted
  | some false => .released

/-- "a motion is running while the gate state is OPENING or CLOSING" (02 R22). -/
def Section.moving (x : Section) : Bool := x.gate == .opening || x.gate == .closing

/-- Whether a check on both limits refuses: both read active, or one has no reading (02 R40, R42, 04 R67). -/
def Block.limitsRefuse (b : Block) (k : Fin 5) : Bool :=
  match b.reading (.openLimit k), b.reading (.closedLimit k) with
  | some o, some c => o && c
  | _, _ => true

/-! ## Water rules -/

/-- The gate level rule (01 R2). -/
def Block.gateLevel (b : Block) (k : Fin 5) : Bool :=
  (b.below k).all (fun c => (b.chamber c).state == .full) && (b.above k).all (fun c => (b.chamber c).state == .empty)

/-- The states of the PERMITTED column (01 R3). -/
def Block.transferPermitted (b : Block) (k : Fin 5) : Bool :=
  (b.below k).all (fun c => (b.chamber c).state == .empty) && (b.above k).all (fun c => (b.chamber c).state == .full)

/-- The sluice transfer rule: the first row that holds (01 R3). -/
def Block.transferAnswer (b : Block) (k : Fin 5) : TransferAnswer :=
  if (b.beside k).any (fun c => (b.chamber c).state == .transfer) then .busy
  else if (b.beside k).any (fun c => (b.chamber c).state == .unknown) then .unknown
  else if b.transferPermitted k then .permitted
  else .refused

/-- The band check of a start at section k (01 R4, 02 R27): an end section whose reach is OUT_OF_BAND. -/
def Block.reachOut (b : Block) (k : Fin 5) : Bool := (b.sideOf k).any (fun side => !b.inBand side)

/-- The lamp check of OPEN GATE (02 R27, 06 R114): an end section whose RED lamp is not proven. -/
def Block.redNotProven (b : Block) (k : Fin 5) : Bool := (b.sideOf k).any (fun side => (b.signal side).redState != .proven)

/-- Whether a gate near section k is not CLOSED (01 R13, 02 R43). -/
def Block.nearGateOpen (b : Block) (k : Fin 5) : Bool := (b.nearSections k).any (fun j => (b.sec j).gate != .closed)

/-- Whether a sluice near section k, k included, is not SHUT (02 R26). -/
def Block.nearSluiceOpen (b : Block) (k : Fin 5) : Bool := (b.nearSections k).any (fun j => (b.sec j).sluice != .shut)

/-- The running transfer that serves a chamber in TRANSFER: through one of its two sluices (01 R14). -/
def Block.transferOf (b : Block) (c : Fin 4) : Option (Fin 5) := (gatesOf c).find? (fun k => (b.sec k).transfer.isSome)

/-! ## Vessels -/

/-- The rate hold (05 R84). -/
def Vessel.rateHold (x : Vessel) : Bool :=
  match x.rateStatus with
  | .pending => false
  | .failed => true
  | .resolved => x.rate.any (fun r => r.hold)

/-- A vessel is exempt when its resolved rate carries the exempt mark (08 R151). -/
def Vessel.exempt (x : Vessel) : Bool := x.rate.any (fun r => r.exempt)

/-- The side of a direction: the lower queue holds UP vessels, the upper queue DOWN vessels (05 R86). -/
def Direction.side (d : Direction) : Side :=
  match d with
  | .up => .lower
  | .down => .upper

/-- The direction of a side. -/
def Side.direction (side : Side) : Direction :=
  match side with
  | .lower => .up
  | .upper => .down

/-- The CALLED vessel of a side (05 R86). -/
def Block.called (b : Block) (side : Side) : Option (Fin 16) := (b.queue side).find? (fun v => (b.vessel v).state == .called)

/-- BOOKED vessels of a direction. -/
def Block.bookedCount (b : Block) (d : Direction) : Nat :=
  (slotsAll.filter (fun v => (b.vessel v).state == .booked && (b.vessel v).direction == d)).length

/-- Reservation count of a side (05 R86). -/
def Block.reservations (b : Block) (side : Side) : Nat := (b.queue side).length + b.bookedCount side.direction

/-- Summed length of a chamber's list (05 R88). -/
def Block.summedLength (b : Block) (c : Fin 4) : Nat := ((b.list c).map (fun v => (b.vessel v).length)).sum

/-- The acceptance test of a chamber for a vessel: the outcome that refuses it, or none when the chamber accepts (05 R88). -/
def Block.acceptance (b : Block) (c : Fin 4) (x : Vessel) : Option OutcomeCode :=
  if (b.list c).any (fun v => (b.vessel v).direction != x.direction) then some .wrongDirection
  else if (b.config.chambers[c]).limit ≤ (b.list c).length then some .noRoom
  else if (b.config.chambers[c]).usable < b.summedLength c + x.length then some .noRoom
  else none

/-- The lowest-numbered FREE slot (05 R90). -/
def Block.freeSlot (b : Block) : Option (Fin 16) := slotsAll.find? (fun v => (b.vessel v).state == .free)

/-- The lowest-numbered FREE meter (08 R144). -/
def Block.freeMeter (b : Block) : Option (Fin 8) := metersAll.find? (fun m => (b.meter m).state == .free)

/-! ## Links and notices -/

/-- The NOTICE line of a link is active (11 R196). -/
def NoticeRec.line (r : NoticeRec) : Bool :=
  (List.finRange 16).any fun k =>
    (r.entries[k]).isSome &&
      (decide (r.threshold ≤ (r.levels[k]).val) || (r.urgent0.enable && r.urgent0.kind == k) || (r.urgent1.enable && r.urgent1.kind == k))

/-- The link status byte: reply count in bits 7..4, free request slots in 3..2, DROPPED in 1, LAPSED in 0 (11 R185, 13 R200). -/
def LinkRec.statusByte (r : LinkRec) : Byte :=
  byteOf (r.replies.length * 16 + (Config.requestDepth - r.requests.length) * 4 + (if r.dropped then 2 else 0) +
    (if r.lease.state = .lapsed then 1 else 0))

end Sys2Proof
end

