-- ==== Sys2Proof/Machine/Operands.lean ====
section
/-! DEFINITION. The arguments of requests as the frames carry them: "Enumerated values are numbered from 0 in the order in which
their owning rule lists them" (13, opening; 13 R203). Out of its list or range, an argument names nothing. -/
namespace Sys2Proof

/-- A section 0..N (02 R22: "A request naming a section above N is refused BAD_ARGUMENT"). -/
def Block.sectionArg (b : Block) (k : Byte) : Option (Fin 5) := if h : k.toNat ≤ b.n.val then some ⟨k.toNat, by omega⟩ else none

/-- A chamber 1..N, as index 0..N-1 (01 R7, 05 R103). -/
def Block.chamberArg (b : Block) (c : Byte) : Option (Fin 4) :=
  if h : 1 ≤ c.toNat ∧ c.toNat ≤ b.n.val then some ⟨c.toNat - 1, by omega⟩ else none

/-- A slot 0..15 that is not FREE (05 R93). -/
def Block.slotArg (b : Block) (v : Byte) : Option (Fin 16) :=
  if h : v.toNat < 16 then (if (b.vessel ⟨v.toNat, h⟩).state = .free then none else some ⟨v.toNat, h⟩) else none

/-- A number below `n`. -/
def finArg (n : Nat) (x : Byte) : Option (Fin n) := if h : x.toNat < n then some ⟨x.toNat, h⟩ else none

/-- LOWER 0, UPPER 1. -/
def sideArg (x : Byte) : Option Side :=
  match x.toNat with
  | 0 => some .lower
  | 1 => some .upper
  | _ => none

/-- UP 0, DOWN 1. -/
def directionArg (x : Byte) : Option Direction :=
  match x.toNat with
  | 0 => some .up
  | 1 => some .down
  | _ => none

/-- AUTO 0, MANUAL 1 (06 R110). -/
def modeArg (x : Byte) : Option Mode :=
  match x.toNat with
  | 0 => some .auto
  | 1 => some .manual
  | _ => none

/-- CLOSED 0, STOP 1, PREPARE 2, PROCEED 3 (06 R105). -/
def aspectArg (x : Byte) : Option Aspect :=
  match x.toNat with
  | 0 => some .closed
  | 1 => some .stop
  | 2 => some .prepare
  | 3 => some .proceed
  | _ => none

/-- Marks: clear 0, set 1. -/
def markArg (x : Byte) : Option Bool :=
  match x.toNat with
  | 0 => some false
  | 1 => some true
  | _ => none

/-- Links: U 0, L 1, T 2. -/
def linkArg (x : Byte) : Option Link :=
  match x.toNat with
  | 0 => some .u
  | 1 => some .l
  | 2 => some .t
  | _ => none

/-- The number of a link. -/
def Link.number (lk : Link) : Nat :=
  match lk with
  | .u => 0
  | .l => 1
  | .t => 2

/-- The number of a side. -/
def Side.number (side : Side) : Nat :=
  match side with
  | .lower => 0
  | .upper => 1

/-- The code of an outcome, 00h to 1Fh (13 R201). -/
def OutcomeCode.number (o : OutcomeCode) : Nat :=
  match o with
  | .done => 0x00 | .accepted => 0x01 | .queued => 0x02 | .already => 0x03
  | .badFrame => 0x04 | .unknownRequest => 0x05 | .notPermitted => 0x06 | .badArgument => 0x07
  | .wrongCondition => 0x08 | .notHolder => 0x09 | .orphaned => 0x0A | .inProgress => 0x0B
  | .notLevel => 0x0C | .sensorDisagree => 0x0D | .lineBlocked => 0x0E | .lampFail => 0x0F
  | .reachOut => 0x10 | .faultPending => 0x11 | .notManual => 0x12 | .manualActive => 0x13
  | .tableFull => 0x14 | .queueFull => 0x15 | .ratingBusy => 0x16 | .duplicateReg => 0x17
  | .tooLong => 0x18 | .ratingPending => 0x19 | .accountHold => 0x1A | .wrongDirection => 0x1B
  | .noRoom => 0x1C | .noMeter => 0x1D | .outOfOrder => 0x1E | .badSequence => 0x1F

/-- A parameter of CONFIGURE with its index: numbered 0 to 13 as 10 R178 lists them; chamber 1..4, section 0..4, link U, L or T; a
parameter without an index carries 0 (13 R203). -/
def parameterArg (param index : Byte) : Option Parameter :=
  let chamber := if h : 1 ≤ index.toNat ∧ index.toNat ≤ 4 then some (⟨index.toNat - 1, by omega⟩ : Fin 4) else none
  let sec := finArg 5 index
  let plain (p : Parameter) := if index.toNat = 0 then some p else none
  match param.toNat with
  | 0 => plain .chamberCount
  | 1 => chamber.map .usableLength
  | 2 => chamber.map .vesselLimit
  | 3 => sec.map .fullStroke
  | 4 => sec.map .overtravelMargin
  | 5 => sec.map .stallTicks
  | 6 => sec.map .crackDelay
  | 7 => sec.map .transferLimit
  | 8 => sec.map .minimumTransfer
  | 9 => sec.map .shutLimit
  | 10 => plain .flashHalfPeriod
  | 11 => (linkArg index).map .leasePeriod
  | 12 => (linkArg index).map .leaseAction
  | 13 => plain .journalThreshold
  | _ => none

/-- The ranges of 10 R178. -/
def Parameter.inRange (p : Parameter) (x : Nat) : Bool :=
  match p with
  | .chamberCount => decide (1 ≤ x ∧ x ≤ 4)
  | .usableLength _ => decide (100 ≤ x ∧ x ≤ 2000)
  | .vesselLimit _ => decide (1 ≤ x ∧ x ≤ 3)
  | .fullStroke _ => decide (16 ≤ x ∧ x ≤ 65535)
  | .overtravelMargin _ => decide (1 ≤ x ∧ x ≤ 255)
  | .stallTicks _ => decide (2 ≤ x ∧ x ≤ 255)
  | .crackDelay _ => decide (x ≤ 255)
  | .transferLimit _ => decide (10 ≤ x ∧ x ≤ 65535)
  | .minimumTransfer _ => decide (x ≤ 65535)
  | .shutLimit _ => decide (5 ≤ x ∧ x ≤ 255)
  | .flashHalfPeriod => decide (2 ≤ x ∧ x ≤ 20)
  | .leasePeriod _ => decide (x = 0 ∨ (2 ≤ x ∧ x ≤ 120))
  | .leaseAction _ => decide (x ≤ 1)
  | .journalThreshold => decide (1 ≤ x ∧ x ≤ 64)

/-- Whether a link holds a section (03 R54). -/
def Section.heldBy (x : Section) (lk : Link) : Bool := x.holder == some lk

end Sys2Proof
end

