-- ==== Sys2Proof/Machine/Signals.lean ====
section
/-! DEFINITION. The Signal Unit (06): the aspect and its lamp latches, lamp proving, and the two signal requests. -/
namespace Sys2Proof

/-! ## Aspect and lamps -/

/-- "The red lamp is lit steadily in STOP and PREPARE" (06 R112). -/
def Aspect.redSteady (a : Aspect) : Bool :=
  match a with
  | .stop | .prepare => true
  | _ => false

/-- "and the green lamp in PREPARE and PROCEED" (06 R112). -/
def Aspect.greenSteady (a : Aspect) : Bool :=
  match a with
  | .prepare | .proceed => true
  | _ => false

/-- The lamp latches of an aspect; `on` is the flasher phase (06 R106). -/
def Aspect.lamps (a : Aspect) (on : Bool) : LampLatches :=
  match a with
  | .closed => { red := on, green := false }
  | .stop => { red := true, green := false }
  | .prepare => { red := true, green := true }
  | .proceed => { red := false, green := true }

/-- Stage and settle count of a lamp after an aspect change (06 R112). -/
def LampStage.relit (before after : Bool) (stage : LampStage) (count : Nat) : LampStage × Nat :=
  if after then (if before then (stage, count) else (.settling, Config.settleTicks)) else (.dark, 0)

/-- The record after a change to aspect `a` (06 R112, R113). -/
def Signal.change (a : Aspect) (x : Signal) : Signal :=
  let red := LampStage.relit x.aspect.redSteady a.redSteady x.redStage x.redSettle
  let green := LampStage.relit x.aspect.greenSteady a.greenSteady x.greenStage x.greenSettle
  { x with
    aspect := a, redStage := if a = .closed then .flashing else red.1, redSettle := red.2, greenStage := green.1, greenSettle := green.2,
    proof := if a = .closed then false else x.proof, firstCycle := if a = .closed then true else x.firstCycle }

/-- Shows aspect `a`: "An event that leaves the aspect as it was makes no latch request" (06 R106). -/
def Block.showAspect (b : Block) (side : Side) (a : Aspect) : Block :=
  if (b.signal side).aspect = a then b
  else (b.setSignal side ((b.signal side).change a)).setLamp side (a.lamps b.flasher.on)

/-! ## Derivation -/

/-- State of the end gate of a side. -/
def Block.endGate (b : Block) (side : Side) : GateState := (b.sec (b.endSection side)).gate

/-- Whether the end chamber accepts the called vessel (06 R107, 05 R88). -/
def Block.calledAccepted (b : Block) (side : Side) : Bool :=
  (b.called side).any fun v => (b.acceptance (b.endChamber side) (b.vessel v)).isNone

/-- The aspect of an AUTO signal and the requirement that decided it (06 R108, R116). Of several requirements that fail, the one that R116
lists first is reported (log 36). -/
def Block.derive (b : Block) (side : Side) : Aspect × AspectReason :=
  match b.cond.condition with
  | .setup => (.closed, .condition)
  | .stopped => (.stop, .condition)
  | .service =>
    if (b.called side).isNone then (.stop, .noVesselCalled)
    else if b.endGate side = .opening then (.prepare, .requirementsMet)
    else if b.endGate side ≠ .opened then (.stop, .gateNotOpen)
    else if !b.inBand side then (.stop, .reachOut)
    else if (b.signal side).redState ≠ .proven then (.stop, .redFailed)
    else if !b.calledAccepted side then (.stop, .notAccepting)
    else (.proceed, .requirementsMet)

/-- Whether a manual aspect is allowed in the present state (06 R110, R109). -/
def Block.manualAllowed (b : Block) (side : Side) (a : Aspect) : Bool :=
  match a with
  | .stop => true
  | .closed => b.cond.condition != .stopped
  | .prepare | .proceed =>
    b.cond.condition == .service && b.endGate side == .opened && (b.signal side).redState == .proven

/-- The aspect a signal has after an event: derived in AUTO (06 R107), kept or forced to STOP in MANUAL (06 R109). -/
def Block.dueAspect (b : Block) (side : Side) : Aspect :=
  match (b.signal side).mode with
  | .auto => (b.derive side).1
  | .manual => if b.manualAllowed side (b.signal side).aspect then (b.signal side).aspect else .stop

/-- One signal brought to the aspect due to it. -/
def Block.refreshSignal (b : Block) (side : Side) : Block := b.showAspect side (b.dueAspect side)

/-- Both signals, at the end of an event that may have changed an input of theirs. -/
def Block.refreshSignals (b : Block) : Block := (b.refreshSignal .lower).refreshSignal .upper

/-! ## Lamp proving (06 R112, R113) -/

/-- Proving state of a lamp. -/
def Signal.lampState (x : Signal) (lamp : Lamp) : LampState :=
  match lamp with
  | .red => x.redState
  | .green => x.greenState

/-- The record with another proving state of a lamp. -/
def Signal.setLampState (x : Signal) (lamp : Lamp) (st : LampState) : Signal :=
  match lamp with
  | .red => { x with redState := st }
  | .green => { x with greenState := st }

/-- Proving stage of a lamp. -/
def Signal.stage (x : Signal) (lamp : Lamp) : LampStage :=
  match lamp with
  | .red => x.redStage
  | .green => x.greenStage

/-- Settle count of a lamp. -/
def Signal.settle (x : Signal) (lamp : Lamp) : Nat :=
  match lamp with
  | .red => x.redSettle
  | .green => x.greenSettle

/-- The proving input of a lamp. -/
def Lamp.proving (lamp : Lamp) (side : Side) : Input :=
  match lamp with
  | .red => .redProving side
  | .green => .greenProving side

/-- A finding: "A change of the proving state from PROVEN to FAILED raises LAMP_FAULT … A judgement that finds the lamp FAILED already
raises nothing, and a return to PROVEN raises no notice" (06 R112). -/
def Block.judgeLamp (b : Block) (side : Side) (lamp : Lamp) (proven : Bool) : Block :=
  let x := b.signal side
  if proven then b.setSignal side (x.setLampState lamp .proven)
  else
    let b' := b.setSignal side (x.setLampState lamp .failed)
    if x.lampState lamp = .proven then b'.raise (.lampFault side lamp) else b'

/-- An arrival of a proving input (06 R112, R113). -/
def Block.provingArrival (b : Block) (side : Side) (lamp : Lamp) (proven : Bool) : Block :=
  match (b.signal side).stage lamp with
  | .settling => if proven then b.judgeLamp side lamp true else b
  | .watching => b.judgeLamp side lamp proven
  | .flashing =>
    if proven then
      let b' := b.setSignal side { b.signal side with proof := true }
      if b.flasher.on then b'.judgeLamp side lamp true else b'
    else b
  | .dark => b

/-- The settle count of a SETTLING lamp lowered by a tick (06 R112). -/
def Signal.settleStep (x : Signal) : Signal :=
  { x with
    redSettle := if x.redStage = .settling then x.redSettle - 1 else x.redSettle
    greenSettle := if x.greenStage = .settling then x.greenSettle - 1 else x.greenSettle }

/-- Whether a settle count has come to 0 and the lamp waits to be judged. -/
def Signal.settleDue (x : Signal) (lamp : Lamp) : Bool := x.stage lamp == .settling && x.settle lamp == 0

/-- The end of settling: WATCHING, and judged "on its qualified proving input as it then stands"; without a reading the proving
state stands (06 R112). -/
def Block.settleExpiry (b : Block) (side : Side) (lamp : Lamp) : Block :=
  if (b.signal side).settleDue lamp then
    let x := b.signal side
    let y : Signal :=
      match lamp with
      | .red => { x with redStage := .watching }
      | .green => { x with greenStage := .watching }
    let b' := b.setSignal side y
    match b'.reading (lamp.proving side) with
    | some proven => (b'.judgeLamp side lamp proven).refreshSignals
    | none => b'
  else b

/-- A change of the flasher phase at a signal: the RED latch request of CLOSED (06 R106), and at a change to ON the judgement of
the cycle that ends, then the mark of the new one (06 R113). -/
def Block.phaseAt (b : Block) (side : Side) : Block :=
  let on := b.flasher.on
  let b1 := if (b.signal side).aspect = .closed then b.setLamp side { b.lamp side with red := on } else b
  if on && (b.signal side).redStage == .flashing then
    let b2 :=
      if (b.signal side).firstCycle then b1.setSignal side { b1.signal side with firstCycle := false }
      else b1.judgeLamp side .red (b.signal side).proof
    b2.setSignal side { b2.signal side with proof := b2.reading (.redProving side) == some true }
  else b1

/-- The phase change of channel 15: "the phase changes to the other value, the reload value takes the flash half-period as
configured at that moment, and the count takes the reload value" (04 R76), offered to both signals, the LOWER one first: the model's choice,
which decides the LAMP_FAULT that stands last when both red lamps fail (log 38). -/
def Block.phaseChange (b : Block) : Block :=
  let c := b.flasher.channel
  if c.state = .running ∧ c.count = 0 then
    let b1 := b.setFlasher { channel := { c with count := b.config.flashHalf, reload := b.config.flashHalf }, on := !b.flasher.on }
    ((b1.phaseAt .lower).phaseAt .upper).refreshSignals
  else b

/-! ## Requests -/

/-- SET SIGNAL MODE (06 R110). -/
def ownSetSignalMode (lk : Link) (sideByte modeByte : Byte) (b : Block) : Answer :=
  match sideArg sideByte, modeArg modeByte with
  | some side, some mode =>
    if !(b.sec (b.endSection side)).heldBy lk then .plain .notHolder b
    else if (b.signal side).mode = mode then .plain .already b
    else
      let x := b.signal side
      let b1 := b.setSignal side { x with mode := mode }
      let shown :=
        match mode with
        | .auto => (b1.derive side).1
        | .manual => if b1.manualAllowed side x.preset then x.preset else .stop
      .done (.aspect shown) (b1.showAspect side shown)
  | _, _ => .plain .badArgument b

/-- The further checks of SET ASPECT in MANUAL (06 R111). -/
def Block.setAspectCheck (b : Block) (side : Side) (a : Aspect) : Option OutcomeCode :=
  match a with
  | .stop => none
  | .closed => if b.cond.condition = .stopped then some .wrongCondition else none
  | .prepare | .proceed =>
    if b.cond.condition ≠ .service then some .wrongCondition
    else if b.endGate side ≠ .opened then some .inProgress
    else if (b.signal side).redState ≠ .proven then some .lampFail
    else none

/-- SET ASPECT (06 R111). -/
def ownSetAspect (lk : Link) (sideByte aspectByte : Byte) (b : Block) : Answer :=
  match sideArg sideByte, aspectArg aspectByte with
  | some side, some a =>
    if !(b.sec (b.endSection side)).heldBy lk then .plain .notHolder b
    else
      match (b.signal side).mode with
      | .auto => .plain .done (b.setSignal side { b.signal side with preset := a })
      | .manual =>
        match b.setAspectCheck side a with
        | some o => .plain o b
        | none => .plain .done ((b.setSignal side { b.signal side with preset := a }).showAspect side a)
  | _, _ => .plain .badArgument b

namespace Machine

/-- SET_SIGNAL_MODE. -/
def execSetSignalMode (lk : Link) (tag : Byte) (side mode : Byte) (s : State) : Host.Outcome State Fault Refusal :=
  s.act fun b => b.request lk 0x50 tag [side, mode] (ownSetSignalMode lk side mode)

/-- SET_ASPECT. -/
def execSetAspect (lk : Link) (tag : Byte) (side aspect : Byte) (s : State) : Host.Outcome State Fault Refusal :=
  s.act fun b => b.request lk 0x51 tag [side, aspect] (ownSetAspect lk side aspect)

/-- FLASHER_PHASE_CHANGE. -/
def execFlasherPhaseChange (s : State) : Host.Outcome State Fault Refusal := s.act Block.phaseChange

/-- LAMP_SETTLE_EXPIRY. -/
def execLampSettleExpiry (side : Side) (lamp : Lamp) (s : State) : Host.Outcome State Fault Refusal :=
  s.act fun b => b.settleExpiry side lamp

end Machine
end Sys2Proof
end

