-- ==== Sys2Proof/Machine/Accounts.lean ====
section
/-! DEFINITION. The Account Unit (08, 09): flight clock and minute tick, dwell meters, fees and shares, the closing queue and the
toll journal, and the toll office's account requests. -/
namespace Sys2Proof

/-! ## Fees -/

/-- The passage fee (08 R149, R151): metres rounded up, the surcharge applied, rounded down; 0 when exempt. -/
def passageFee (rate : Rate) (length : Nat) : Nat :=
  if rate.exempt then 0 else (rate.baseFee + rate.perMetre * ((length + 9) / 10)) * (100 + rate.surcharge) / 100

/-- The dwell charge (08 R150, R151). -/
def dwellCharge (rate : Rate) (minutes : Nat) : Nat := if rate.exempt then 0 else (minutes - rate.freeMinutes) * rate.dwellRate

/-- The total of a vessel (08 R155). -/
def Vessel.total (x : Vessel) : Nat := addMoney (addMoney x.passageFee x.lockageTotal) x.dwellCharge

/-! ## Dwell meters -/

/-- Assigns the lowest-numbered FREE meter to a vessel at its admission (08 R144). -/
def Block.assignMeter (b : Block) (v : Fin 16) : Block :=
  match b.freeMeter with
  | some m => (b.setMeter m { state := .running, minutes := 0, owner := some v }).setVessel v { b.vessel v with meter := some m }
  | none => b

/-- Stops a vessel's meter at its exit (08 R146). -/
def Block.stopMeter (b : Block) (v : Fin 16) : Block :=
  match (b.vessel v).meter with
  | some m => b.setMeter m { b.meter m with state := .stopping }
  | none => b

/-- Appends a ready vessel to the closing queue (09 R157). -/
def Block.ready (b : Block) (v : Fin 16) : Block := b.setAcct { b.acct with closing := b.acct.closing ++ [v] }

/-- The vessel of a meter that has become STOPPED takes its dwell minutes and charge and is ready (08 R145). -/
def Block.meterStopped (b : Block) (v : Fin 16) (minutes : Nat) : Block :=
  let x := b.vessel v
  (b.setVessel v { x with dwellMinutes := minutes, dwellCharge := (x.rate.map (fun r => dwellCharge r minutes)).getD 0 }).ready v

/-- A minute tick at one meter (08 R145). -/
def Block.minuteAt (b : Block) (m : Fin 8) : Block :=
  let x := b.meter m
  match x.state with
  | .running => b.setMeter m { x with minutes := countUp 65535 x.minutes }
  | .stopping =>
    let b1 := b.setMeter m { x with state := .stopped, minutes := countUp 65535 x.minutes }
    match x.owner with
    | some v => b1.meterStopped v (countUp 65535 x.minutes)
    | none => b1
  | _ => b

/-! ## Closing (09) -/

/-- The account record of a vessel (09 R159). -/
def Vessel.account (x : Vessel) (seq : W32) : AccountRecord :=
  { sequence := seq, registration := x.registration, length := x.length, direction := x.direction, operator := x.operator, cls := x.cls,
    cargo := x.cargo, withdrawn := x.withdrawn, exempt := x.exempt, staleRate := x.rate.any (fun r => r.stale), rateHold := x.rateHold,
    officeHold := x.officeHold, failedRate := x.rateStatus == .failed, booked := x.booked, admitted := x.admitted, exited := x.exited,
    passageFee := x.passageFee, lockageCount := x.lockageCount, lockageTotal := x.lockageTotal, dwellMinutes := x.dwellMinutes,
    dwellCharge := x.dwellCharge, total := x.total }

/-- The notices judged at a record written; `newest` is its number and `waiting` the closing queue once it has left it (09 R164,
log 12). -/
def Block.journalNotices (b : Block) (newest : W32) (waiting : Nat) : Block :=
  let count := b.acct.journal.length
  let b1 := if count = b.config.threshold then b.raise (.journalThreshold count newest) else b
  if count = Config.journalDepth then b1.raise (.journalFull newest waiting) else b1

/-- Frees a meter (08 R147). -/
def Block.releaseMeter (b : Block) (m : Option (Fin 8)) : Block :=
  match m with
  | some i => b.setMeter i { state := .free, minutes := 0, owner := none }
  | none => b

/-- Writes the account record of the head `v` of the closing queue, whose rest is `rest` (09 R158, steps 1 to 5). -/
def Block.writeRecord (b : Block) (v : Fin 16) (rest : List (Fin 16)) : Block :=
  let x := b.vessel v
  let seq := b.acct.nextSeq
  let b1 := b.setAcct { b.acct with journal := b.acct.journal ++ [x.account seq], nextSeq := seq + 1, closing := rest }
  ((b1.journalNotices seq rest.length).setVessel v Machine.vesselFree).releaseMeter x.meter

/-- Writes records "while both still hold": the closing queue is not empty and the journal holds fewer than 64 (09 R158). The fuel
is the length of the queue. -/
def Block.drainFor (fuel : Nat) (b : Block) : Block :=
  match fuel with
  | 0 => b
  | fuel + 1 =>
    match b.acct.closing with
    | [] => b
    | v :: rest => if b.acct.journal.length < Config.journalDepth then Block.drainFor fuel (b.writeRecord v rest) else b

/-- The writing of the closing queue into the journal's space (09 R158). -/
def Block.drain (b : Block) : Block := Block.drainFor b.acct.closing.length b

/-! ## The clock -/

/-- The minute tick: every meter in ascending number, then the writing of the vessels made ready (08 R145, 09 R158, log 12). -/
def Block.minuteTick (b : Block) : Block := (metersAll.foldl Block.minuteAt b).drain

/-- An advance counts a RUNNING lease down (03 R57). -/
def Lease.advance (x : Lease) : Lease := if x.state = .running then { x with counter := x.counter - 1 } else x

/-- The lease of a link replaced. -/
def Block.setLease (b : Block) (lk : Link) (x : Lease) : Block := b.setLink lk { b.link lk with lease := x }

/-- All three leases at an advance. -/
def Block.leasesAdvance (b : Block) : Block :=
  ((b.setLease .u (b.link .u).lease.advance).setLease .l (b.link .l).lease.advance).setLease .t (b.link .t).lease.advance

/-- The advance of the flight clock, when a second waits to be taken (08 R140, R141; 03 R57). While
the RESET pin is held "the lease counters do not count" (10 R182). -/
def Block.clockAdvance (b : Block) : Block :=
  if b.tick.secondDue then
    let b1 := b.setTick { b.tick with secondDue := false }
    let b2 := b1.setAcct { b1.acct with clock := b1.acct.clock + 1 }
    let b3 := if b2.resetHeld then b2 else b2.leasesAdvance
    if b3.acct.clock.toNat % 60 = 0 then b3.minuteTick else b3
  else b

/-! ## The lockage charge (08 R153) -/

/-- The occupant whose admission sequence is lowest as a number. -/
def Block.lowestAdmission (b : Block) (occupants : List (Fin 16)) : Option (Fin 16) :=
  occupants.foldl
    (fun best v =>
      match best with
      | none => some v
      | some w => if ((b.vessel v).admission.getD 0).toNat < ((b.vessel w).admission.getD 0).toNat then some v else some w)
    none

/-- Gives one occupant its share: the count rises, the share goes to its lockage total, or to the write-off total when exempt. -/
def Block.giveShare (b : Block) (v : Fin 16) (share : Nat) : Block :=
  let x := b.vessel v
  let y := { x with lockageCount := countUp 255 x.lockageCount }
  if x.exempt then (b.setVessel v y).setAcct { b.acct with writeOff := addMoney b.acct.writeOff share }
  else b.setVessel v { y with lockageTotal := addMoney x.lockageTotal share }

/-- The share of one occupant: W divided by the number of occupants, and the remainder to the lowest admission sequence. -/
def Block.shareOf (b : Block) (occupants : List (Fin 16)) (v : Fin 16) : Nat :=
  let w := b.acct.charge
  let n := occupants.length
  w / n + (if b.lowestAdmission occupants = some v then w % n else 0)

/-- The lockage event (08 R153). -/
def Block.lockageEvent (b : Block) (occupants : List (Fin 16)) : Block :=
  occupants.foldl (fun a v => a.giveShare v (b.shareOf occupants v)) b

/-! ## Requests -/

/-- SET CLOCK (08 R142). -/
def ownSetClock (seconds : W32) (b : Block) : Answer := .done (.clock b.clock) (b.setAcct { b.acct with clock := seconds })

/-- SET LOCKAGE CHARGE (08 R152). -/
def ownSetLockageCharge (w : W16) (b : Block) : Answer := .done (.money b.acct.charge) (b.setAcct { b.acct with charge := w.toNat })

/-- CLEAR WRITE-OFF (08 R154). -/
def ownClearWriteOff (b : Block) : Answer := .done (.money b.acct.writeOff) (b.setAcct { b.acct with writeOff := 0 })

/-- RELEASE JOURNAL (09 R163). -/
def ownReleaseJournal (seq : W32) (b : Block) : Answer :=
  match b.acct.journal.findIdx? (fun r => r.sequence == seq) with
  | none => .plain .badSequence b
  | some i =>
    let left := b.acct.journal.drop (i + 1)
    let b1 := (b.setAcct { b.acct with journal := left }).drain
    .done (.released (i + 1) (b1.acct.journal.length - left.length) b1.acct.journal.length) b1

namespace Machine

/-- SET_CLOCK. -/
def execSetClock (lk : Link) (tag : Byte) (seconds : W32) (s : State) : Host.Outcome State Fault Refusal :=
  s.act fun b => b.request lk 0x80 tag (bytesOf32 seconds) (ownSetClock seconds)

/-- SET_LOCKAGE_CHARGE. -/
def execSetLockageCharge (lk : Link) (tag : Byte) (w : W16) (s : State) : Host.Outcome State Fault Refusal :=
  s.act fun b => b.request lk 0x81 tag (bytesOf16 w) (ownSetLockageCharge w)

/-- CLEAR_WRITE_OFF. -/
def execClearWriteOff (lk : Link) (tag : Byte) (s : State) : Host.Outcome State Fault Refusal :=
  s.act fun b => b.request lk 0x82 tag [] ownClearWriteOff

/-- RELEASE_JOURNAL. -/
def execReleaseJournal (lk : Link) (tag : Byte) (seq : W32) (s : State) : Host.Outcome State Fault Refusal :=
  s.act fun b => b.request lk 0x83 tag (bytesOf32 seq) (ownReleaseJournal seq)

/-- FLIGHT_CLOCK_ADVANCE. -/
def execFlightClockAdvance (s : State) : Host.Outcome State Fault Refusal := s.act Block.clockAdvance

end Machine
end Sys2Proof
end

