-- ==== Sys2Proof/Machine/Tariff.lean ====
section
/-! DEFINITION. The Tariff Unit (07): store arbiter, windows, rating queue, walk, rate cache, and the toll office's tariff
requests; and the delivery of a rate to the vessel table (05 R85). -/
namespace Sys2Proof

/-! ## The arbiter (07 R122) -/

/-- Whether the walk engine waits for the store. -/
def Tariff.walkWaits (t : Tariff) : Bool := t.engine == .walking && t.walk.any (fun w => !w.inAccess)
/-- Whether Link T waits for the store. -/
def Tariff.linkWaits (t : Tariff) : Bool := t.access.any (fun a => !a.inAccess)
/-- Whether an access is in progress. -/
def Tariff.busy (t : Tariff) : Bool := t.walk.any (fun w => w.inAccess) || t.access.any (fun a => a.inAccess)

/-- Grants the store to the walk. -/
def Tariff.grantWalk (t : Tariff) : Tariff := { t with walk := t.walk.map (fun w => { w with inAccess := true }), lastServed := .walk }
/-- Grants the store to Link T. -/
def Tariff.grantLink (t : Tariff) : Tariff := { t with access := t.access.map (fun a => { a with inAccess := true }), lastServed := .link }

/-- The grant made when the store is free: the one that waits, and of two "the one that was not served last" (07 R122). -/
def Tariff.grant (t : Tariff) : Tariff :=
  if t.busy then t
  else
    match t.walkWaits, t.linkWaits with
    | true, true => if t.lastServed = .walk then t.grantLink else t.grantWalk
    | true, false => t.grantWalk
    | false, true => t.grantLink
    | false, false => t

/-- A running walk becomes stale (07 R137). A walk that is ABANDONING counts as no longer running and keeps its mark (log 37). -/
def Tariff.staleWalk (t : Tariff) : Tariff :=
  if t.engine = .walking then { t with walk := t.walk.map (fun w => { w with stale := true }) } else t

/-! ## Windows and cache -/

/-- "every bit of the operator that the mask does not ignore equals the same bit of the base" (07 R123). -/
def Window.matchesOp (w : Window) (operator : W16) : Bool := w.enable && decide ((operator ^^^ w.base) &&& ~~~w.mask = 0)

/-- The cache key of a vessel (07 R124). -/
def Vessel.key (x : Vessel) : Key := { group := x.operator.toNat / 4096, cls := x.cls, cargo := x.cargo }

/-- "A key (group, class, cargo) belongs to set class mod 4" (07 R131). -/
def Key.set (k : Key) : Fin 4 := ⟨k.cls % 4, Nat.mod_lt _ (by decide)⟩

/-- The four ways in order. -/
def waysAll : List (Fin 4) := [0, 1, 2, 3]

/-- The way that holds a key. -/
def CacheSet.find (c : CacheSet) (k : Key) : Option (Fin 4) := waysAll.find? (fun w => (c.ways[w]).any (fun e => e.key == k))

/-- The set with way `w` the most recent. -/
def CacheSet.touch (c : CacheSet) (w : Fin 4) : CacheSet := { c with order := w :: c.order.erase w }

/-- The way a result is placed in: the lowest-numbered invalid one, else the least recently used (07 R133). -/
def CacheSet.victim (c : CacheSet) : Fin 4 :=
  match waysAll.find? (fun w => (c.ways[w]).isNone) with
  | some w => w
  | none => c.order.getLast?.getD 0

/-- Places an entry (07 R133). -/
def CacheSet.place (c : CacheSet) (e : CacheEntry) : CacheSet :=
  CacheSet.touch { c with ways := c.ways.set c.victim (some e) } c.victim

/-- Whether a flush removes a way. -/
def CacheSet.gone (p : CacheEntry → Bool) (c : CacheSet) (w : Fin 4) : Bool := (c.ways[w]).any p

/-- A flush of one set: the ways that satisfy `p` become invalid, "and the order of the ways left is kept" (07 R135). -/
def CacheSet.flush (p : CacheEntry → Bool) (c : CacheSet) : CacheSet :=
  { ways := c.ways.map (fun e => if e.any p then none else e), order := c.order.filter (fun w => !c.gone p w) }

/-- How many ways a flush of a set makes invalid. -/
def CacheSet.flushCount (p : CacheEntry → Bool) (c : CacheSet) : Nat := (waysAll.filter (c.gone p)).length

/-- The rate a cache hit delivers (07 R130). -/
def CacheEntry.rate (e : CacheEntry) : Rate :=
  { baseFee := e.baseFee, perMetre := e.perMetre, dwellRate := e.dwellRate, freeMinutes := e.freeMinutes, surcharge := e.surcharge,
    hold := e.hold, exempt := e.exempt, stale := false, source := some e.source }

/-- The rate a window match delivers (07 R130). -/
def windowRate : Rate :=
  { baseFee := 0, perMetre := 0, dwellRate := 0, freeMinutes := 0, surcharge := 0, hold := false, exempt := true, stale := false,
    source := none }

/-! ## Delivery (05 R85) -/

/-- The vessel's rating queue entry removed (07 R124). -/
def Block.unqueueRating (b : Block) (v : Fin 16) : Block := b.setTariff { b.tariff with queue := b.tariff.queue.erase v }

/-- The vessel's rate fields after a delivery. -/
def Vessel.rated (x : Vessel) (result : Except WalkFailure Rate) : Vessel :=
  match result with
  | .ok r => { x with rateStatus := .resolved, rate := some r }
  | .error _ => { x with rateStatus := .failed, rate := none }

/-- A rate result stored in the vessel record; a BOOKED vessel joins the tail of its approach queue; VESSEL_RATED (05 R85). -/
def Block.deliver (b : Block) (v : Fin 16) (result : Except WalkFailure Rate) : Block :=
  let x := (b.vessel v).rated result
  let b1 := b.unqueueRating v
  let b2 :=
    if x.state = .booked then
      let side := x.direction.side
      (b1.setVessel v { x with state := .waiting, position := .approach side }).setQueue side (b1.queue side ++ [v])
    else b1.setVessel v x
  b2.raise (.vesselRated v (match result with | .ok _ => none | .error c => some c))

/-! ## The walk (07 R125 to R130) -/

/-- The store freed and granted again. -/
def Block.regrant (b : Block) : Block := b.setTariff b.tariff.grant

/-- The walk record discarded, the engine IDLE. -/
def Block.endWalk (b : Block) : Block := b.setTariff { b.tariff with walk := none, engine := .idle }

/-- The walk fails: its result is delivered in the same event (07 R129). -/
def Block.walkFails (b : Block) (w : Walk) (c : WalkFailure) : Block := b.endWalk.deliver w.slot (.error c)

/-- The rate a successful walk delivers (07 R130). -/
def Walk.rate (w : Walk) (leaf : W64) : Rate :=
  { baseFee := entryBaseFee leaf, perMetre := entryPerMetre leaf, dwellRate := entryDwellRate leaf, freeMinutes := entryFreeMinutes leaf,
    surcharge := w.surcharge, hold := w.hold, exempt := entryExempt leaf, stale := w.stale, source := w.source }

/-- The cache entry a successful walk offers (07 R133). -/
def Walk.cacheEntry (w : Walk) (leaf : W64) : CacheEntry :=
  { key := w.key, baseFee := entryBaseFee leaf, perMetre := entryPerMetre leaf, dwellRate := entryDwellRate leaf,
    freeMinutes := entryFreeMinutes leaf, surcharge := w.surcharge, hold := w.hold, exempt := entryExempt leaf,
    standing := entryStanding leaf, source := w.source.getD 0 }

/-- The walk ends in success: placed in the cache when not stale and not frozen, and delivered (07 R130, R133). -/
def Block.walkSucceeds (b : Block) (w : Walk) (leaf : W64) : Block :=
  let t := b.tariff
  let b1 :=
    if w.stale || t.freeze then b
    else b.setTariff { t with cache := t.cache.set w.key.set (CacheSet.place t.cache[w.key.set] (w.cacheEntry leaf)) }
  b1.endWalk.deliver w.slot (.ok (w.rate leaf))

/-- The walk waits with a new step. -/
def Block.walkOn (b : Block) (w : Walk) : Block := b.setTariff { b.tariff with walk := some { w with inAccess := false } }

/-- The level that follows an accepted TABLE (07 R126). -/
def WalkLevel.below (l : WalkLevel) : WalkLevel :=
  match l with
  | .level1 => .level2
  | _ => .leaf

/-- What is added to the next-table base: the class at LEVEL1, the cargo at LEVEL2 (07 R126). -/
def Walk.selector (w : Walk) : Nat := if w.level = .level1 then w.key.cls else w.key.cargo

/-- The walk at the READ that follows an accepted TABLE. -/
def Walk.descend (w : Walk) : Walk := { w with level := w.level.below, writeBack := false, index := w.next }

/-- The judgement of a LEVEL1 or LEVEL2 entry (07 R126, R129, log 15). -/
def Block.judgeTable (b : Block) (w : Walk) (e : W64) : Block :=
  match entryKind e with
  | .invalid => b.walkFails w .noTariff
  | .table =>
    let next := entryIndex e + w.selector
    if Config.storeSize ≤ next then b.walkFails w .storeRange
    else
      let w1 := { w with hold := w.hold || entryHold e, surcharge := min (w.surcharge + entrySurcharge e) 255, next := next }
      if entryUsed e then b.walkOn w1.descend else b.walkOn { w1 with writeBack := true }
  | _ => b.walkFails w .badTable

/-- A RATE accepted as the leaf (07 R127). -/
def Block.acceptLeaf (b : Block) (w : Walk) (e : W64) : Block :=
  let w1 := { w with leaf := some e, source := some w.index }
  if entryUsed e then b.walkSucceeds w1 e else b.walkOn { w1 with writeBack := true }

/-- The judgement of the LEAF entry (07 R127). -/
def Block.judgeLeaf (b : Block) (w : Walk) (e : W64) : Block :=
  match entryKind e with
  | .rate => b.acceptLeaf w e
  | .indirect => b.walkOn { w with level := .target, writeBack := false, index := entryIndex e }
  | .invalid => b.walkFails w .noTariff
  | .table => b.walkFails w .badLeaf

/-- The judgement of the TARGET entry (07 R127). -/
def Block.judgeTarget (b : Block) (w : Walk) (e : W64) : Block :=
  match entryKind e with
  | .rate => b.acceptLeaf w e
  | _ => b.walkFails w .badIndirect

/-- The kind the walk accepted at a level. -/
def WalkLevel.kind (l : WalkLevel) : EntryKind :=
  match l with
  | .level1 | .level2 => .table
  | .leaf | .target => .rate

/-- A write-back at its completion: "The mark is set only if the entry is still of the kind that the walk accepted there" (07 R128). -/
def Tariff.markUsed (t : Tariff) (w : Walk) : Tariff :=
  let e := storeRead t.store w.index
  if entryKind e = w.level.kind then { t with store := storeWrite t.store w.index (entryMarkUsed e) } else t

/-- The completion of a WRITE_BACK of a running walk (07 R126, R127). -/
def Block.afterWriteBack (b : Block) (w : Walk) : Block :=
  match w.leaf with
  | some leaf => b.walkSucceeds w leaf
  | none => b.walkOn w.descend

/-- The completion of a walk access (07 R126 to R128, R138). -/
def Block.walkComplete (b : Block) : Block :=
  match b.tariff.walk with
  | none => b
  | some w =>
    if !w.inAccess then b
    else
      let b1 := if w.writeBack then b.setTariff (b.tariff.markUsed w) else b
      (match b.tariff.engine with
       | .walking =>
         if w.writeBack then b1.afterWriteBack w
         else
           let e := storeRead b.tariff.store w.index
           match w.level with
           | .level1 | .level2 => b1.judgeTable w e
           | .leaf => b1.judgeLeaf w e
           | .target => b1.judgeTarget w e
       | _ => b1.endWalk).regrant

/-- A walk started for the head slot (07 R125). -/
def Block.startWalk (b : Block) (v : Fin 16) (k : Key) : Block :=
  let t := b.tariff
  let w : Walk :=
    { slot := v, key := k, root := t.root, level := .level1, writeBack := false, index := t.root + k.group, hold := false, surcharge := 0,
      leaf := none, source := none, stale := false, inAccess := false, next := 0 }
  if Config.storeSize ≤ w.index then b.walkFails w .storeRange
  else (b.setTariff { t with engine := .walking, walk := some w }).regrant

/-- The head of the rating queue is taken (07 R124). -/
def Block.headTaken (b : Block) : Block :=
  let t := b.tariff
  match t.engine, t.queue with
  | .idle, v :: _ =>
    let x := b.vessel v
    if (t.windows[(0 : Fin 2)]).matchesOp x.operator || (t.windows[(1 : Fin 2)]).matchesOp x.operator then b.deliver v (.ok windowRate)
    else
      let c := t.cache[x.key.set]
      match c.find x.key with
      | some w =>
        let b1 := b.setTariff { t with cache := t.cache.set x.key.set (c.touch w) }
        match c.ways[w] with
        | some e => b1.deliver v (.ok e.rate)
        | none => b
      | none => b.startWalk v x.key
  | _, _ => b

/-- A vessel withdrawn leaves the rating queue, and a walk of its own is abandoned (07 R138). -/
def Block.leaveRating (b : Block) (v : Fin 16) : Block :=
  let b1 := b.unqueueRating v
  match b1.tariff.engine, b1.tariff.walk with
  | .walking, some w =>
    if w.slot = v then (if w.inAccess then b1.setTariff { b1.tariff with engine := .abandoning } else b1.endWalk) else b1
  | _, _ => b1

/-! ## Link T's requests -/

/-- The reply to the request in hand, with its code and tag (11 R188). -/
def Block.replyInHand (b : Block) (lk : Link) (o : OutcomeCode) (p : Payload) : Block :=
  match (b.link lk).requests with
  | .good code tag _ :: _ => b.queueReply lk { code := code, tag := tag, outcome := o, payload := p }
  | _ => b

/-- An accepted store request waits for the store under the arbiter (07 R119, R120). -/
def Block.askStore (b : Block) (write : Option W64) (index : Nat) : Block :=
  (b.setTariff { b.tariff with access := some { write := write, index := index, inAccess := false } }).regrant

/-- WRITE TARIFF (07 R119). -/
def ownWriteTariff (i : W16) (entry : W64) (b : Block) : Answer :=
  if Config.storeSize ≤ i.toNat then .plain .badArgument b else .later (b.askStore (some entry) i.toNat)

/-- READ TARIFF (07 R120). -/
def ownReadTariff (i : W16) (b : Block) : Answer :=
  if Config.storeSize ≤ i.toNat then .plain .badArgument b else .later (b.askStore none i.toNat)

/-- The completion of the write: the entry takes the value whole, a running walk becomes stale, DONE is queued (07 R119). -/
def Block.writeComplete (b : Block) : Block :=
  match b.tariff.access with
  | some { write := some x, index := i, inAccess := true } =>
    let t := b.tariff
    ((b.setTariff (Tariff.staleWalk { t with store := storeWrite t.store i x, access := none })).replyInHand .t .done .none).regrant
  | _ => b

/-- The completion of the read: DONE with the entry as it stands (07 R120). -/
def Block.readComplete (b : Block) : Block :=
  match b.tariff.access with
  | some { write := none, index := i, inAccess := true } =>
    let t := b.tariff
    ((b.setTariff { t with access := none }).replyInHand .t .done (.bytes (bytesOf64 (storeRead t.store i)))).regrant
  | _ => b

/-- SET ROOT (07 R121). -/
def ownSetRoot (r : W16) (b : Block) : Answer :=
  if Config.storeSize ≤ r.toNat then .plain .badArgument b
  else .plain .done (b.setTariff (Tariff.staleWalk { b.tariff with root := r.toNat }))

/-- SET WINDOW (07 R123; enable as a mark, log 23). -/
def ownSetWindow (w enable : Byte) (base mask : W16) (b : Block) : Answer :=
  match finArg 2 w, markArg enable with
  | some i, some e => .plain .done (b.setTariff { b.tariff with windows := b.tariff.windows.set i { enable := e, base := base, mask := mask } })
  | _, _ => .plain .badArgument b

/-- SET FREEZE (07 R134). -/
def ownSetFreeze (f : Byte) (b : Block) : Answer :=
  match markArg f with
  | none => .plain .badArgument b
  | some x => if b.tariff.freeze = x then .plain .already b else .plain .done (b.setTariff { b.tariff with freeze := x })

/-- An accepted flush (07 R135). -/
def flushWhere (p : CacheEntry → Bool) (b : Block) : Answer :=
  let t := b.tariff
  .done (.waysFlushed ((t.cache.map (CacheSet.flushCount p)).toList.sum))
    (b.setTariff (Tariff.staleWalk { t with cache := t.cache.map (CacheSet.flush p) }))

/-- FLUSH ALL (07 R135). -/
def ownFlushAll (b : Block) : Answer := flushWhere (fun _ => true) b

/-- FLUSH NONSTANDING (07 R135). -/
def ownFlushNonstanding (b : Block) : Answer := flushWhere (fun e => !e.standing) b

/-- FLUSH KEY (07 R135). -/
def ownFlushKey (group cls cargo : Byte) (b : Block) : Answer :=
  if group.toNat ≤ 15 ∧ cls.toNat ≤ 15 ∧ cargo.toNat ≤ 7 then
    flushWhere (fun e => e.key == { group := group.toNat, cls := cls.toNat, cargo := cargo.toNat }) b
  else .plain .badArgument b

namespace Machine

/-- WRITE_TARIFF. -/
def execWriteTariff (lk : Link) (tag : Byte) (i : W16) (entry : W64) (s : State) : Host.Outcome State Fault Refusal :=
  s.act fun b => b.request lk 0x70 tag (bytesOf16 i ++ bytesOf64 entry) (ownWriteTariff i entry)

/-- READ_TARIFF. -/
def execReadTariff (lk : Link) (tag : Byte) (i : W16) (s : State) : Host.Outcome State Fault Refusal :=
  s.act fun b => b.request lk 0x71 tag (bytesOf16 i) (ownReadTariff i)

/-- SET_ROOT. -/
def execSetRoot (lk : Link) (tag : Byte) (r : W16) (s : State) : Host.Outcome State Fault Refusal :=
  s.act fun b => b.request lk 0x72 tag (bytesOf16 r) (ownSetRoot r)

/-- SET_WINDOW. -/
def execSetWindow (lk : Link) (tag : Byte) (w enable : Byte) (base mask : W16) (s : State) : Host.Outcome State Fault Refusal :=
  s.act fun b => b.request lk 0x73 tag ([w, enable] ++ bytesOf16 base ++ bytesOf16 mask) (ownSetWindow w enable base mask)

/-- SET_FREEZE. -/
def execSetFreeze (lk : Link) (tag : Byte) (f : Byte) (s : State) : Host.Outcome State Fault Refusal :=
  s.act fun b => b.request lk 0x74 tag [f] (ownSetFreeze f)

/-- FLUSH_ALL. -/
def execFlushAll (lk : Link) (tag : Byte) (s : State) : Host.Outcome State Fault Refusal :=
  s.act fun b => b.request lk 0x75 tag [] ownFlushAll

/-- FLUSH_NONSTANDING. -/
def execFlushNonstanding (lk : Link) (tag : Byte) (s : State) : Host.Outcome State Fault Refusal :=
  s.act fun b => b.request lk 0x76 tag [] ownFlushNonstanding

/-- FLUSH_KEY. -/
def execFlushKey (lk : Link) (tag : Byte) (group cls cargo : Byte) (s : State) : Host.Outcome State Fault Refusal :=
  s.act fun b => b.request lk 0x77 tag [group, cls, cargo] (ownFlushKey group cls cargo)

/-- RATING_HEAD_TAKEN. -/
def execRatingHeadTaken (s : State) : Host.Outcome State Fault Refusal := s.act Block.headTaken

/-- WALK_ACCESS_COMPLETE. -/
def execWalkAccessComplete (s : State) : Host.Outcome State Fault Refusal := s.act Block.walkComplete

/-- TARIFF_WRITE_COMPLETE. -/
def execTariffWriteComplete (s : State) : Host.Outcome State Fault Refusal := s.act Block.writeComplete

/-- TARIFF_READ_COMPLETE. -/
def execTariffReadComplete (s : State) : Host.Outcome State Fault Refusal := s.act Block.readComplete

end Machine
end Sys2Proof
end

