-- ==== Sys2Proof/Machine/Water.lean ====
section
/-! DEFINITION. The Water State Unit and the sluices (01): chambers, survey, level faults, transfers and the supervision of a shutting
sluice. -/
namespace Sys2Proof

/-! ## Shared with the gates: the fault record (02 R24) -/

/-- Enters a fault: a new record, or the repeat mark of the one that stands; `again` is the repeat mark of a new record (02 R24, 01 R20). -/
def Block.enterFault (b : Block) (k : Fin 5) (kind : FaultKind) (again : Bool) : Block :=
  let x := b.sec k
  match x.fault with
  | some f => b.setSec k { x with fault := some { f with repeated := true } }
  | none => b.setSec k { x with fault := some { kind := kind, stamp := b.clock, repeated := again } }

/-- A fault entered with its GATE_FAULT notice (02 R24). -/
def Block.gateFault (b : Block) (k : Fin 5) (kind : FaultKind) : Block := (b.enterFault k kind false).raise (.gateFault k kind)

/-! ## Channels and sluice -/

/-- The transfer channel of a section stopped (04 R70). -/
def Block.stopTransferChannel (b : Block) (k : Fin 5) : Block :=
  b.setTimer k { b.timer k with transfer := (b.timer k).transfer.stop }

/-- A SHUT START with the configured shut limit (04 R75; 01 R12, log 26). -/
def Block.shutStart (b : Block) (k : Fin 5) : Block :=
  b.setTimer k { b.timer k with transfer := Machine.Channel.shutStart (b.config.sections[k]).shutLimit (b.timer k).transfer }

/-- The state of a sluice. -/
def Block.setSluice (b : Block) (k : Fin 5) (st : SluiceState) : Block := b.setSec k { b.sec k with sluice := st }

/-- A sluice made SHUTTING with both paddle latches reset and the shut limit started (01 R12, 02 R44). -/
def Block.shutSluice (b : Block) (k : Fin 5) : Block := ((b.latch k latchNone latchPaddles).setSluice k .shutting).shutStart k

/-! ## Level faults (01 R9 to R11) -/

/-- The state of a chamber. -/
def Block.setChamberState (b : Block) (c : Fin 4) (st : ChamberState) : Block := b.setChamber c { b.chamber c with state := st }

/-- The phase and cause of a running transfer. -/
def Block.setTransfer (b : Block) (k : Fin 5) (r : Option TransferRec) : Block := b.setSec k { b.sec k with transfer := r }

/-- An abort cause given to a running transfer that has none (01 R18). -/
def Block.giveCause (b : Block) (k : Fin 5) (cause : Cause) : Block :=
  match (b.sec k).transfer with
  | some r =>
    if r.cause.isSome then b
    else if r.phase = .shutWait then b.setTransfer k (some { r with cause := some cause })
    else (b.setTransfer k (some { r with cause := some cause, phase := .shutWait })).shutSluice k
  | none => b

/-- A level fault at a chamber: UNKNOWN with LEVEL_FAULT; in TRANSFER it stays so and its transfer takes cause ABORTED (01 R9, R11).
`always`: a lost paddle proof tells of an UNKNOWN chamber too (01 R10, log 10). -/
def Block.levelFault (always : Bool) (b : Block) (c : Fin 4) : Block :=
  match (b.chamber c).state with
  | .transfer =>
    let b1 :=
      match b.transferOf c with
      | some k => b.giveCause k .aborted
      | none => b
    b1.raise (.levelFault c)
  | .unknown => if always then b.raise (.levelFault c) else b
  | _ => (b.setChamberState c .unknown).raise (.levelFault c)

/-- LEVEL_FAULT raised for each of some chambers, in the order of the list: ascending, the model's choice (log 38). -/
def Block.tellLevelFaults (b : Block) (cs : List (Fin 4)) : Block := cs.foldl (fun a c => a.raise (.levelFault c)) b

/-- Some chambers made UNKNOWN without a notice. -/
def Block.makeUnknown (b : Block) (cs : List (Fin 4)) : Block := cs.foldl (fun a c => a.setChamberState c .unknown) b

/-- The level fault of R9 at the chambers beside gate k, the lower one's first (log 38). -/
def Block.headFault (b : Block) (k : Fin 5) : Block := (b.beside k).foldl (Block.levelFault false) b

/-- The chambers beside sluice k made UNKNOWN without a notice (01 R10). -/
def Block.unknownBeside (b : Block) (k : Fin 5) : Block := b.makeUnknown (b.beside k)

/-! ## Survey (01 R7, R8) -/

/-- The state a survey gives a chamber from its depth reading; with no reading "as for MID" (01 R8). -/
def Block.surveyState (b : Block) (c : Fin 4) : ChamberState :=
  match b.depth c with
  | some .low => .empty
  | some .high => .full
  | _ => .unknown

/-- The states of a survey's first step: every chamber surveyed takes that of its depth reading. -/
def Block.surveyStates (b : Block) (cs : List (Fin 4)) : Block := cs.foldl (fun a c => a.setChamberState c (b.surveyState c)) b

/-- Whether an adjoining gate that is not CLOSED is not level. -/
def Block.gateDisagrees (b : Block) (c : Fin 4) : Bool :=
  (gatesOf c).any (fun k => (b.sec k).gate != .closed && !b.gateLevel k)

/-- Whether the check of a survey makes a chamber UNKNOWN; `b1` holds the states of the first step, all of which the check reads (log 9).
"A chamber whose depth reading already made it UNKNOWN is not checked again" (01 R8). -/
def Block.surveyRejects (b b1 : Block) (c : Fin 4) : Bool := b.surveyState c != .unknown && b1.gateDisagrees c

/-- Whether a chamber that a survey leaves UNKNOWN is changed by it: "A chamber that the survey did not change also raises nothing"
(01 R8, log 8). -/
def Block.surveyChanges (b : Block) (c : Fin 4) : Bool := (b.chamber c).state != .unknown

/-- An accepted survey: first the states of the depth readings, with LEVEL_FAULT for each INVALID one; then the check against the gates,
with LEVEL_FAULT for each chamber that it makes UNKNOWN (01 R8; the order of the notices, 11 R193). -/
def Block.surveyed (b : Block) (cs : List (Fin 4)) : Block :=
  let b1 := b.surveyStates cs
  let rejected := cs.filter (b.surveyRejects b1)
  let b2 := b1.tellLevelFaults (cs.filter fun c => b.depth c == some .invalid && b.surveyChanges c)
  (b2.makeUnknown rejected).tellLevelFaults (rejected.filter b.surveyChanges)

/-- Whether a survey of a chamber is refused IN_PROGRESS (01 R7). -/
def Block.surveyBusy (b : Block) (c : Fin 4) : Bool :=
  (b.chamber c).state == .transfer || (gatesOf c).any (fun k => (b.sec k).sluice != .shut)

/-- The survey of a list of chambers, whole or not at all (01 R7). -/
def Block.survey (b : Block) (cs : List (Fin 4)) : Answer :=
  if cs.any b.surveyBusy then .plain .inProgress b
  else
    let b1 := b.surveyed cs
    .done (.chamberStates (cs.map (fun c => (c, (b1.chamber c).state)))) b1

/-- SURVEY c (01 R7). -/
def ownSurvey (c : Byte) (b : Block) : Answer :=
  match b.chamberArg c with
  | some c => b.survey [c]
  | none => .plain .badArgument b

/-- SURVEY ALL (01 R7). -/
def ownSurveyAll (b : Block) : Answer := b.survey b.chambersIn

/-! ## Transfer (01 R13 to R21) -/

/-- Whether a neighbouring sluice, Sk-1 or Sk+1, is not SHUT (01 R13). -/
def Block.neighbourSluiceOpen (b : Block) (k : Fin 5) : Bool :=
  (b.nearSections k).any (fun j => j != k && (b.sec j).sluice != .shut)

/-- The checks of TRANSFER after its argument, up to the head sensor's (01 R13). -/
def Block.transferCheck (b : Block) (lk : Link) (k : Fin 5) : Option OutcomeCode :=
  let x := b.sec k
  if b.cond.condition ≠ .service then some .wrongCondition
  else if !x.heldBy lk then some .notHolder
  else if x.mode = .manual then some .manualActive
  else if x.fault.isSome then some .faultPending
  else if x.sluice ≠ .shut then some .inProgress
  else if b.nearGateOpen k then some .inProgress
  else if b.neighbourSluiceOpen k then some .inProgress
  else if b.reachOut k then some .reachOut
  else
    match b.transferAnswer k with
    | .busy => some .inProgress
    | .unknown | .refused => some .notLevel
    | .permitted => none

/-- The acceptance of TRANSFER k (01 R14). -/
def Block.startTransfer (b : Block) (k : Fin 5) : Block :=
  let cfg := b.config.sections[k]
  let b1 := (b.beside k).foldl (fun a c => a.setChamberState c .transfer) b
  let b2 := b1.setSec k
    { b1.sec k with sluice := .cracked, transfer := some { start := b.clock, phase := .crack, cause := none, captured := none } }
  (b2.latch k latchCrack latchNone).setTimer k
    { b2.timer k with transfer := Channel.transferStart cfg.crackDelay cfg.transferLimit cfg.shutLimit (b2.timer k).transfer }

/-- TRANSFER k (01 R13). "a SENSOR_DISAGREE for a head sensor without a reading makes no chamber UNKNOWN" (04 R67). -/
def ownTransfer (lk : Link) (kByte : Byte) (b : Block) : Answer :=
  match b.sectionArg kByte with
  | none => .plain .badArgument b
  | some k =>
    match b.transferCheck lk k with
    | some o => .plain o b
    | none =>
      match b.reading (.head k) with
      | some true => .plain .sensorDisagree (b.headFault k)
      | none => .plain .sensorDisagree b
      | some false => .plain .accepted (b.startTransfer k)

/-- ABORT TRANSFER k (01 R18). -/
def ownAbortTransfer (lk : Link) (kByte : Byte) (b : Block) : Answer :=
  match b.sectionArg kByte with
  | none => .plain .badArgument b
  | some k =>
    if !(b.sec k).heldBy lk then .plain .notHolder b
    else
      match (b.sec k).transfer with
      | some r => if r.cause.isSome then .plain .already b else .plain .done (b.giveCause k .aborted)
      | none => .plain .already b

/-- COMPARE (01 R15): due while the phase is CRACK, no cause is recorded and the channel stands at its compare value on its way up.
The FULL latch is set in AUTO only (04 R79). -/
def Block.compareEvent (b : Block) (k : Fin 5) : Block :=
  let ch := (b.timer k).transfer
  match (b.sec k).transfer with
  | some r =>
    if r.phase = .crack ∧ r.cause = none ∧ ch.state = .running ∧ ch.dir = .up ∧ ch.count = ch.compare then
      let b1 := b.setSec k { b.sec k with sluice := .opened, transfer := some { r with phase := .full } }
      if (b.sec k).mode = .auto then b1.latch k latchFull latchNone else b1
    else b
  | none => b

/-- EXPIRY(LIMIT) (01 R17): due while the channel has turned DOWN under a transfer in phase CRACK or FULL with no cause. -/
def Block.limitExpiry (b : Block) (k : Fin 5) : Block :=
  let ch := (b.timer k).transfer
  match (b.sec k).transfer with
  | some r =>
    if r.phase ≠ .shutWait ∧ r.cause = none ∧ ch.state = .running ∧ ch.dir = .down then
      ((b.setTransfer k (some { r with phase := .shutWait, cause := some .timeout })).latch k latchNone latchPaddles).setSluice k .shutting
    else b
  | none => b

/-- The capture of a LEVEL arrival (01 R16, 04 R74). -/
def Block.captureEvent (b : Block) (k : Fin 5) : Block :=
  match (b.timer k).transfer.captureOf with
  | none => b
  | some n =>
    let b1 := b.setTimer k { b.timer k with transfer := (b.timer k).transfer.captured n }
    match (b.sec k).transfer with
    | some r =>
      if r.phase ≠ .shutWait ∧ r.cause = none then
        ((b1.setTransfer k (some { r with phase := .shutWait, captured := some n })).latch k latchNone latchPaddles).setSluice k .shutting
      else b1
    | none => b1

/-- Whether the depth readings match: a chamber to become FULL reads HIGH, one to become EMPTY reads LOW (01 R19). -/
def Block.depthsMatch (b : Block) (k : Fin 5) : Bool :=
  (b.below k).all (fun c => b.depth c == some .high) && (b.above k).all (fun c => b.depth c == some .low)

/-- How a transfer ends: nothing stands for success (01 R19). -/
def Block.transferEnd (b : Block) (k : Fin 5) (r : TransferRec) : Option TransferEnd :=
  match r.cause with
  | some .timeout => some .timeout
  | some .aborted => some .aborted
  | some .reachOut => some .reachOut
  | none =>
    if r.captured.getD 0 < (b.config.sections[k]).minTransfer then some .short
    else if !b.depthsMatch k then some .depthMismatch
    else none

/-- The lockage counts of one chamber (01 R21). -/
def Block.countLockage (served : Bool) (b : Block) (c : Fin 4) : Block :=
  let x := b.chamber c
  if served then (if b.list c = [] then b else b.setChamber c { x with lockages := x.lockages + 1 })
  else b.setChamber c { x with emptyLockages := x.emptyLockages + 1 }

/-- The occupants of the chambers beside sluice k, the lower chamber's first (01 R21). -/
def Block.occupants (b : Block) (k : Fin 5) : List (Fin 16) := (b.beside k).flatMap b.list

/-- The lockage decision (01 R21). -/
def Block.lockageDecision (b : Block) (k : Fin 5) : Block :=
  let occupants := b.occupants k
  let b1 := (b.beside k).foldl (Block.countLockage (!occupants.isEmpty)) b
  if occupants.isEmpty then b1 else b1.lockageEvent occupants

/-- The chambers of a successful transfer: Ck FULL, Ck+1 EMPTY (01 R3, R19). -/
def Block.levelled (b : Block) (k : Fin 5) : Block :=
  let b1 := (b.below k).elim b (fun c => b.setChamberState c .full)
  (b.above k).elim b1 (fun c => b1.setChamberState c .empty)

/-- The end of a transfer proven shut (01 R19). -/
def Block.endTransfer (b : Block) (k : Fin 5) (r : TransferRec) : Block :=
  let ticks := r.captured.getD 0
  let b1 := (b.setSec k { b.sec k with sluice := .shut, transfer := none, lastTicks := ticks }).stopTransferChannel k
  match b.transferEnd k r with
  | none => ((b1.levelled k).raise (.transferDone k ticks)).lockageDecision k
  | some why =>
    let b2 := (b1.unknownBeside k).raise (.transferFault k why)
    if why = .short ∨ why = .depthMismatch then b2.tellLevelFaults (b.beside k) else b2

/-- A paddle proof lost at a SHUT sluice (01 R10), the chambers beside it told of in ascending number (log 38). -/
def Block.loseProof (b : Block) (k : Fin 5) : Block :=
  (b.beside k).foldl (Block.levelFault true) ((b.setSluice k .fault).gateFault k .shutFail)

/-- An arrival of the paddle-shut input (01 R10, R12, R19; 02 R44). -/
def Block.paddleArrival (b : Block) (k : Fin 5) (shut : Bool) : Block :=
  let x := b.sec k
  match x.sluice, shut with
  | .shutting, true =>
    match x.transfer with
    | some r => b.endTransfer k r
    | none => (b.setSluice k .shut).stopTransferChannel k
  | .shut, false => if (b.drive k).paddleCrack || (b.drive k).paddleFull then b else b.loseProof k
  | _, _ => b

/-- EXPIRY(SHUT) (01 R20; 02 R44): due while the transfer channel stands ENDED under a SHUTTING sluice. -/
def Block.shutExpiry (b : Block) (k : Fin 5) : Block :=
  let x := b.sec k
  if x.sluice = .shutting ∧ (b.timer k).transfer.state = .ended then
    let b1 := (b.setSluice k .fault).stopTransferChannel k
    match x.transfer with
    | some r =>
      let b2 := (b1.enterFault k .shutFail r.cause.isSome).unknownBeside k
      (b2.setSec k { b2.sec k with transfer := none, lastTicks := r.captured.getD 0 }).raise (.transferFault k .shutFail)
    | none => b1.gateFault k .shutFail
  else b

/-- An arrival of a band input: REACH_CHANGE when it changes the band state, which is OUT_OF_BAND before the first reading (`before`
is the reading it found); OUT_OF_BAND aborts a transfer of the end section (01 R4, R18). -/
def Block.bandEffect (b : Block) (side : Side) (before : Option Bool) (inBand : Bool) : Block :=
  let b1 := if inBand || before == some true then b.raise (.reachChange side inBand) else b
  if inBand then b1 else b1.giveCause (b.endSection side) .reachOut

namespace Machine

/-- TRANSFER. -/
def execTransfer (lk : Link) (tag k : Byte) (s : State) : Host.Outcome State Fault Refusal :=
  s.act fun b => b.request lk 0x30 tag [k] (ownTransfer lk k)

/-- ABORT_TRANSFER. -/
def execAbortTransfer (lk : Link) (tag k : Byte) (s : State) : Host.Outcome State Fault Refusal :=
  s.act fun b => b.request lk 0x31 tag [k] (ownAbortTransfer lk k)

/-- SURVEY. -/
def execSurvey (lk : Link) (tag c : Byte) (s : State) : Host.Outcome State Fault Refusal :=
  s.act fun b => b.request lk 0x32 tag [c] (ownSurvey c)

/-- SURVEY_ALL. -/
def execSurveyAll (lk : Link) (tag : Byte) (s : State) : Host.Outcome State Fault Refusal :=
  s.act fun b => b.request lk 0x33 tag [] ownSurveyAll

/-- COMPARE. -/
def execCompare (k : Fin 5) (s : State) : Host.Outcome State Fault Refusal := s.act fun b => b.compareEvent k

/-- EXPIRY_LIMIT. -/
def execExpiryLimit (k : Fin 5) (s : State) : Host.Outcome State Fault Refusal := s.act fun b => b.limitExpiry k

/-- EXPIRY_SHUT. -/
def execExpiryShut (k : Fin 5) (s : State) : Host.Outcome State Fault Refusal := s.act fun b => b.shutExpiry k

end Machine
end Sys2Proof
end

