-- ==== Sys2Proof/Machine/Gates.lean ====
section
/-! DEFINITION. The Section Controller's gate side (02): position and pulses, the start and the ends of a motion, a gate at rest,
clearing a fault, modes and manual drives. -/
namespace Sys2Proof

/-! ## The start and the end of a motion -/

/-- The end of a gate motion: both gate latches reset, stroke and stall channels IDLE, the gate state and position as given (02 R30). -/
def Block.endMotion (b : Block) (k : Fin 5) (gate : GateState) (position : Option Nat) : Block :=
  let t := b.timer k
  ((b.latch k latchNone latchGates).setTimer k { t with stroke := t.stroke.stop, stall := t.stall.stop }).setSec k
    { b.sec k with gate := gate, position := position }

/-- A motion that ends with the gate STOPPED "with its position as counted" (02 R33, R38). -/
def Block.stopMotion (b : Block) (k : Fin 5) : Block := b.endMotion k .stopped (b.sec k).position

/-- A running motion stopped; a gate at rest is left (02 R37, R38). -/
def Block.stopIfMoving (b : Block) (k : Fin 5) : Block := if (b.sec k).moving then b.stopMotion k else b

/-- The remaining travel of a motion (02 R29). -/
def remainingTravel (stroke : Nat) (dir : Travel) (position : Option Nat) : Nat :=
  match position, dir with
  | none, _ => stroke
  | some p, .opens => stroke - p
  | some p, .closes => p

/-- The load of the stroke channel: "A load above 65535 is held at 65535" (02 R29). -/
def strokeLoad (cfg : SectionCfg) (dir : Travel) (position : Option Nat) : Nat :=
  min (remainingTravel cfg.stroke dir position + cfg.margin) 65535

/-- The gate state of a motion. -/
def Travel.motion (dir : Travel) : GateState :=
  match dir with
  | .opens => .opening
  | .closes => .closing

/-- The latch a motion sets. -/
def Travel.latch (dir : Travel) : DriveLatches :=
  match dir with
  | .opens => latchGateOpen
  | .closes => latchGateClose

/-- The acceptance of a motion (02 R29). -/
def Block.startMotion (b : Block) (k : Fin 5) (dir : Travel) : Block :=
  let cfg := b.config.sections[k]
  let t := b.timer k
  let x := b.sec k
  ((b.setTimer k { t with stroke := t.stroke.strokeStart (strokeLoad cfg dir x.position), stall := t.stall.stallStart cfg.stallTicks }).latch k
    dir.latch latchNone).setSec k { x with travel := dir, gate := dir.motion }

/-! ## Opening and closing -/

/-- The answer of a request that passes its own checks and then those of R26, and starts an opening (02 R26, 01 R9, 04 R67). -/
def Block.openChecked (b : Block) (k : Fin 5) : Answer :=
  if b.nearSluiceOpen k then .plain .inProgress b
  else if !b.gateLevel k then .plain .notLevel b
  else
    match b.reading (.head k) with
    | some true => .plain .accepted (b.startMotion k .opens).refreshSignals
    | some false => .plain .sensorDisagree (b.headFault k)
    | none => .plain .sensorDisagree b

/-- Whether the gate-line beam refuses a closing: broken, or with no reading (02 R28, 04 R67). -/
def Block.beamRefuses (b : Block) (k : Fin 5) : Bool := b.reading (.beam k) != some false

/-- The answer of a closing request at its beam check (02 R28, R42). -/
def Block.closeChecked (b : Block) (k : Fin 5) : Answer :=
  if b.beamRefuses k then .plain .lineBlocked b else .plain .accepted (b.startMotion k .closes).refreshSignals

/-- The checks that OPEN GATE and CLOSE GATE share, after the argument; `there` is the state the request asks for (02 R27, R28). -/
def Block.motionCheck (b : Block) (lk : Link) (k : Fin 5) (there : GateState) : Option OutcomeCode :=
  let x := b.sec k
  if b.cond.condition ≠ .service then some .wrongCondition
  else if !x.heldBy lk then some .notHolder
  else if x.mode = .manual then some .manualActive
  else if x.fault.isSome then some .faultPending
  else if x.moving then some .inProgress
  else if x.gate = there then some .already
  else if b.reachOut k then some .reachOut
  else none

/-- OPEN GATE k (02 R27). -/
def ownOpenGate (lk : Link) (kByte : Byte) (b : Block) : Answer :=
  match b.sectionArg kByte with
  | none => .plain .badArgument b
  | some k =>
    match b.motionCheck lk k .opened with
    | some o => .plain o b
    | none => if b.redNotProven k then .plain .lampFail b else b.openChecked k

/-- CLOSE GATE k (02 R28). -/
def ownCloseGate (lk : Link) (kByte : Byte) (b : Block) : Answer :=
  match b.sectionArg kByte with
  | none => .plain .badArgument b
  | some k =>
    match b.motionCheck lk k .closed with
    | some o => .plain o b
    | none => b.closeChecked k

/-- A stop asked for: DONE with a motion running, ALREADY at rest (02 R33, R42). -/
def Block.haltGate (b : Block) (k : Fin 5) : Answer :=
  if (b.sec k).moving then .plain .done (b.stopMotion k).refreshSignals else .plain .already b

/-- STOP GATE k (02 R33). -/
def ownStopGate (lk : Link) (kByte : Byte) (b : Block) : Answer :=
  match b.sectionArg kByte with
  | none => .plain .badArgument b
  | some k => if !(b.sec k).heldBy lk then .plain .notHolder b else b.haltGate k

/-- CLEAR FAULT k (02 R40). Its FAULT_PENDING names the condition of R40's table that still holds (02, Recovering a faulted section),
carried in the payload (11 R191): of two that hold, the first in R40's order (log 39). -/
def ownClearFault (lk : Link) (kByte : Byte) (b : Block) : Answer :=
  match b.sectionArg kByte with
  | none => .plain .badArgument b
  | some k =>
    let x := b.sec k
    if !x.heldBy lk then .plain .notHolder b
    else if x.fault.isNone then .plain .already b
    else if b.limitsRefuse k then .naming .faultPending (.faultCondition .bothLimits) b
    else if x.sluice = .fault ∧ b.reading (.paddle k) ≠ some true then .naming .faultPending (.faultCondition .sluiceNotShut) b
    else .plain .done (b.setSec k { x with fault := none, sluice := if x.sluice = .fault then .shut else x.sluice })

/-- SET MANUAL k (02 R41). -/
def ownSetManual (lk : Link) (kByte : Byte) (b : Block) : Answer :=
  match b.sectionArg kByte with
  | none => .plain .badArgument b
  | some k =>
    let x := b.sec k
    if !x.heldBy lk then .plain .notHolder b
    else if x.mode = .manual then .plain .already b
    else if x.moving || x.transfer.isSome then .plain .inProgress b
    else .plain .done (b.setSec k { x with mode := .manual })

/-- SET AUTO k (02 R41). -/
def ownSetAuto (lk : Link) (kByte : Byte) (b : Block) : Answer :=
  match b.sectionArg kByte with
  | none => .plain .badArgument b
  | some k =>
    let x := b.sec k
    if !x.heldBy lk then .plain .notHolder b
    else if x.mode = .auto then .plain .already b
    else if x.moving || x.sluice != .shut then .plain .inProgress b
    else .plain .done (b.setSec k { x with mode := .auto })

/-! ## Manual drives -/

/-- The first checks of DRIVE GATE and DRIVE SLUICE, after the argument (02 R42, R43). -/
def Block.driveCheck (b : Block) (lk : Link) (k : Fin 5) : Option OutcomeCode :=
  let x := b.sec k
  if !x.heldBy lk then some .notHolder
  else if x.mode = .auto then some .notManual
  else if b.cond.condition = .stopped then some .wrongCondition
  else none

/-- A manual drive request: its argument, its first checks, then the drive (02 R42, R43). -/
def Block.driven (b : Block) (lk : Link) (kByte : Byte) (go : Fin 5 → Answer) : Answer :=
  match b.sectionArg kByte with
  | none => .plain .badArgument b
  | some k =>
    match b.driveCheck lk k with
    | some o => .plain o b
    | none => go k

/-- The gate state a motion ends in when it succeeds. -/
def Travel.target (dir : Travel) : GateState :=
  match dir with
  | .opens => .opened
  | .closes => .closed

/-- The further checks of DRIVE GATE OPEN and CLOSE (02 R42). -/
def Block.driveGateCheck (b : Block) (k : Fin 5) (dir : Travel) : Option OutcomeCode :=
  let x := b.sec k
  if x.fault.any (fun f => f.kind == .limitConflict) || b.limitsRefuse k then some .faultPending
  else if x.gate = dir.target ∨ x.gate = dir.motion then some .already
  else if x.moving then some .inProgress
  else if b.reachOut k then some .reachOut
  else none

/-- DRIVE GATE k OPEN (02 R42). -/
def ownDriveGateOpen (lk : Link) (kByte : Byte) (b : Block) : Answer :=
  b.driven lk kByte fun k =>
    match b.driveGateCheck k .opens with
    | some o => .plain o b
    | none => b.openChecked k

/-- DRIVE GATE k CLOSE (02 R42). -/
def ownDriveGateClose (lk : Link) (kByte : Byte) (b : Block) : Answer :=
  b.driven lk kByte fun k =>
    match b.driveGateCheck k .closes with
    | some o => .plain o b
    | none => b.closeChecked k

/-- DRIVE GATE k HALT (02 R42). -/
def ownDriveGateHalt (lk : Link) (kByte : Byte) (b : Block) : Answer := b.driven lk kByte b.haltGate

/-- The further checks of DRIVE SLUICE CRACK and FULL but ALREADY (02 R43). -/
def Block.driveSluiceCheck (b : Block) (k : Fin 5) : Option OutcomeCode :=
  match (b.sec k).sluice with
  | .fault => some .faultPending
  | .shutting => some .inProgress
  | _ =>
    if b.nearGateOpen k then some .inProgress
    else if (b.beside k).any (fun c => (b.chamber c).state == .transfer) then some .inProgress
    else none

/-- DRIVE SLUICE k CRACK (02 R43). -/
def ownDriveSluiceCrack (lk : Link) (kByte : Byte) (b : Block) : Answer :=
  b.driven lk kByte fun k =>
    match b.driveSluiceCheck k with
    | some o => .plain o b
    | none =>
      if (b.sec k).sluice = .shut then .plain .done (((b.latch k latchCrack latchNone).setSluice k .cracked).unknownBeside k)
      else .plain .already b

/-- DRIVE SLUICE k FULL (02 R43). -/
def ownDriveSluiceFull (lk : Link) (kByte : Byte) (b : Block) : Answer :=
  b.driven lk kByte fun k =>
    match b.driveSluiceCheck k with
    | some o => .plain o b
    | none =>
      match (b.sec k).sluice with
      | .shut => .plain .done (((b.latch k latchPaddles latchNone).setSluice k .opened).unknownBeside k)
      | .cracked => .plain .done ((b.latch k latchFull latchNone).setSluice k .opened)
      | _ => .plain .already b

/-- DRIVE SLUICE k SHUT (02 R43, R44). -/
def ownDriveSluiceShut (lk : Link) (kByte : Byte) (b : Block) : Answer :=
  b.driven lk kByte fun k =>
    match (b.sec k).sluice with
    | .cracked | .opened => .plain .done (b.shutSluice k)
    | _ => .plain .already b

/-! ## Field events at a gate -/

/-- A position after a pulse: "held within 0 and the full stroke" (02 R23). -/
def pulsedPosition (stroke : Nat) (dir : Travel) (position : Option Nat) : Option Nat :=
  position.map fun p =>
    match dir with
    | .opens => min (p + 1) stroke
    | .closes => p - 1

/-- What a pulse does itself: it moves the position and reaches the section's stroke and stall channels (02 R23, 04 R68). -/
def Block.pulseCounted (b : Block) (k : Fin 5) : Block :=
  let x := b.sec k
  let t := b.timer k
  (b.setSec k { x with position := pulsedPosition (b.config.sections[k]).stroke x.travel x.position }).setTimer k
    { t with stroke := t.stroke.strokePulse, stall := t.stall.stallPulse }

/-- Both limits read active, or the wrong one arrives: LIMIT_CONFLICT; "The position is kept as counted" (02 R35). -/
def Block.limitConflict (b : Block) (k : Fin 5) : Block := (b.stopMotion k).gateFault k .limitConflict

/-- The limit a motion is bound for. -/
def Travel.limit (dir : Travel) : LimitSwitch :=
  match dir with
  | .opens => .openLimit
  | .closes => .closedLimit

/-- The input of a limit switch. -/
def LimitSwitch.input (w : LimitSwitch) (k : Fin 5) : Input :=
  match w with
  | .openLimit => .openLimit k
  | .closedLimit => .closedLimit k

/-- The direction of the motion that a gate state stands for; none at rest (02 R22). -/
def GateState.travel (g : GateState) : Option Travel :=
  match g with
  | .opening => some .opens
  | .closing => some .closes
  | .closed | .opened | .stopped => none

/-- The gate OPEN at its full stroke or CLOSED at 0 (02 R23). -/
def Block.gateAt (b : Block) (k : Fin 5) (dir : Travel) : Block :=
  match dir with
  | .opens => b.endMotion k .opened (some (b.config.sections[k]).stroke)
  | .closes => b.endMotion k .closed (some 0)

/-- A limit arrival during a motion, not both limits active: LIMIT_CONFLICT where the opposite limit arrives active (02 R35), success where
the target limit does (R31). A limit going inactive changes nothing; only a first reading that leaves the target limit alone active is the
success of R46's table (log 35). The target limit is not asked for when the opposite one arrives, nor does an unread opposite limit keep
the target one from its success (log 11). -/
def Block.limitInMotion (b : Block) (k : Fin 5) (dir : Travel) (which : LimitSwitch) (before : Option Bool) (active : Bool) : Block :=
  if active && which != dir.limit then b.limitConflict k
  else if active || (before.isNone && b.reading (dir.limit.input k) == some true) then
    (b.gateAt k dir).raise (.gateDone k (dir == .opens))
  else b

/-- A limit arrival while the gate is at rest, judged on the pair of readings it leaves (02 R39). -/
def Block.limitAtRest (b : Block) (k : Fin 5) (openActive closedActive : Bool) : Block :=
  match (b.sec k).gate, openActive, closedActive with
  | _, true, true => b.limitConflict k
  | .stopped, false, true => b.gateAt k .closes
  | .stopped, true, false => b.gateAt k .opens
  | .stopped, false, false => b
  | _, false, false => (b.endMotion k .stopped none).gateFault k .drift
  | _, _, _ => b

/-- The first reading that leaves both limits with a reading, the gate at rest; "not treated as drift" (02 R46). -/
def Block.limitsFirstRead (b : Block) (k : Fin 5) (openActive closedActive : Bool) : Block :=
  match openActive, closedActive with
  | false, true => b.gateAt k .closes
  | true, false => b.gateAt k .opens
  | false, false => b.endMotion k .stopped none
  | true, true => (b.endMotion k .stopped none).gateFault k .limitConflict

/-- A limit arrival; `before` is the reading it replaces, none at its first reading. During a motion it is judged by R31 and R35, whether
or not the other limit has a reading (02, log 11); at rest on the pair of readings, by R39 or, at the first reading that completes the
pair, by R46. A first reading with the other limit unread changes nothing (R46); one that completes the pair during a motion is log 35. -/
def Block.limitEffect (b : Block) (k : Fin 5) (which : LimitSwitch) (before : Option Bool) (active : Bool) : Block :=
  match b.reading (.openLimit k), b.reading (.closedLimit k), (b.sec k).gate.travel with
  | some true, some true, some _ => (b.limitConflict k).refreshSignals
  | some _, some _, some dir => (b.limitInMotion k dir which before active).refreshSignals
  | some o, some c, none => (if before.isNone then b.limitsFirstRead k o c else b.limitAtRest k o c).refreshSignals
  | _, _, some dir => if before.isNone then b else (b.limitInMotion k dir which before active).refreshSignals
  | _, _, none => b

/-- The gate-line beam broken during a closing (02 R36). -/
def Block.beamEffect (b : Block) (k : Fin 5) (broken : Bool) : Block :=
  if broken ∧ (b.sec k).gate = .closing then ((b.stopMotion k).raise (.lineBlocked k)).refreshSignals else b

/-- A head arrival: HEAD at a gate that is not CLOSED stops it and makes the chambers beside it UNKNOWN (02 R37, 01 R9); LEVEL is the
transfer's capture (01 R16). -/
def Block.headEffect (b : Block) (k : Fin 5) (level : Bool) : Block :=
  if level then b.captureEvent k
  else if (b.sec k).gate = .closed then b
  else ((b.stopIfMoving k).headFault k).refreshSignals

/-- ZERO (02 R32): due while the stroke channel stands ENDED under an AUTO motion, which ends as OVERTRAVEL. -/
def Block.zeroEvent (b : Block) (k : Fin 5) : Block :=
  let x := b.sec k
  if x.mode = .auto ∧ x.moving ∧ (b.timer k).stroke.state = .ended then ((b.stopMotion k).gateFault k .overtravel).refreshSignals else b

/-- EXPIRY of the stall channel (02 R34): due while it stands ENDED under a motion, which ends as STALL. -/
def Block.stallEvent (b : Block) (k : Fin 5) : Block :=
  if (b.sec k).moving ∧ (b.timer k).stall.state = .ended then ((b.stopMotion k).gateFault k .stall).refreshSignals else b

/-- One encoder pulse; "A pulse of a section above N is not counted" (04 R68). The section's ZERO or EXPIRY that an earlier pulse or tick
made and that still stands is taken before it: "the motion ends as STALL, and the pulse then moves the position alone" (04 R72, log 2). -/
def Block.pulse (b : Block) (k : Fin 5) : Block := if k ≤ b.n then ((b.zeroEvent k).stallEvent k).pulseCounted k else b

namespace Machine

/-- OPEN_GATE. -/
def execOpenGate (lk : Link) (tag k : Byte) (s : State) : Host.Outcome State Fault Refusal :=
  s.act fun b => b.request lk 0x20 tag [k] (ownOpenGate lk k)

/-- CLOSE_GATE. -/
def execCloseGate (lk : Link) (tag k : Byte) (s : State) : Host.Outcome State Fault Refusal :=
  s.act fun b => b.request lk 0x21 tag [k] (ownCloseGate lk k)

/-- STOP_GATE. -/
def execStopGate (lk : Link) (tag k : Byte) (s : State) : Host.Outcome State Fault Refusal :=
  s.act fun b => b.request lk 0x22 tag [k] (ownStopGate lk k)

/-- CLEAR_FAULT. -/
def execClearFault (lk : Link) (tag k : Byte) (s : State) : Host.Outcome State Fault Refusal :=
  s.act fun b => b.request lk 0x23 tag [k] (ownClearFault lk k)

/-- SET_MANUAL. -/
def execSetManual (lk : Link) (tag k : Byte) (s : State) : Host.Outcome State Fault Refusal :=
  s.act fun b => b.request lk 0x24 tag [k] (ownSetManual lk k)

/-- SET_AUTO. -/
def execSetAuto (lk : Link) (tag k : Byte) (s : State) : Host.Outcome State Fault Refusal :=
  s.act fun b => b.request lk 0x25 tag [k] (ownSetAuto lk k)

/-- DRIVE_GATE_OPEN. -/
def execDriveGateOpen (lk : Link) (tag k : Byte) (s : State) : Host.Outcome State Fault Refusal :=
  s.act fun b => b.request lk 0x26 tag [k, 0] (ownDriveGateOpen lk k)

/-- DRIVE_GATE_CLOSE. -/
def execDriveGateClose (lk : Link) (tag k : Byte) (s : State) : Host.Outcome State Fault Refusal :=
  s.act fun b => b.request lk 0x26 tag [k, 1] (ownDriveGateClose lk k)

/-- DRIVE_GATE_HALT. -/
def execDriveGateHalt (lk : Link) (tag k : Byte) (s : State) : Host.Outcome State Fault Refusal :=
  s.act fun b => b.request lk 0x26 tag [k, 2] (ownDriveGateHalt lk k)

/-- DRIVE_SLUICE_CRACK. -/
def execDriveSluiceCrack (lk : Link) (tag k : Byte) (s : State) : Host.Outcome State Fault Refusal :=
  s.act fun b => b.request lk 0x27 tag [k, 0] (ownDriveSluiceCrack lk k)

/-- DRIVE_SLUICE_FULL. -/
def execDriveSluiceFull (lk : Link) (tag k : Byte) (s : State) : Host.Outcome State Fault Refusal :=
  s.act fun b => b.request lk 0x27 tag [k, 1] (ownDriveSluiceFull lk k)

/-- DRIVE_SLUICE_SHUT. -/
def execDriveSluiceShut (lk : Link) (tag k : Byte) (s : State) : Host.Outcome State Fault Refusal :=
  s.act fun b => b.request lk 0x27 tag [k, 2] (ownDriveSluiceShut lk k)

/-- ENCODER_PULSE. -/
def execEncoderPulse (k : Fin 5) (s : State) : Host.Outcome State Fault Refusal := s.act fun b => b.pulse k

/-- ZERO. -/
def execZero (k : Fin 5) (s : State) : Host.Outcome State Fault Refusal := s.act fun b => b.zeroEvent k

/-- STALL_EXPIRY. -/
def execStallExpiry (k : Fin 5) (s : State) : Host.Outcome State Fault Refusal := s.act fun b => b.stallEvent k

end Machine
end Sys2Proof
end

