-- ==== Sys2Proof/Machine/Passage.lean ====
section
/-! DEFINITION. The Passage Unit (05): booking, calling, deferring, advancing, withdrawal, holds and re-rating. -/
namespace Sys2Proof

/-! ## Calls -/

/-- A call that ends without admission: the CALLED vessel returns to WAITING at the head of its queue (05 R92). -/
def Block.endCall (b : Block) (side : Side) : Block :=
  match b.called side with
  | some v => b.setVessel v { b.vessel v with state := .waiting }
  | none => b

/-- Both calls ended (05 R92, 10 R174). -/
def Block.endCalls (b : Block) : Block := (b.endCall .lower).endCall .upper

/-- The checks of CALL on the head of the queue (05 R91). -/
def Block.callCheck (b : Block) (side : Side) (x : Vessel) : Option OutcomeCode :=
  if x.rateStatus = .pending then some .ratingPending
  else if x.officeHold || x.rateHold then some .accountHold
  else b.acceptance (b.endChamber side) x

/-- CALL side (05 R91). -/
def ownCall (lk : Link) (sideByte : Byte) (b : Block) : Answer :=
  match sideArg sideByte with
  | none => .plain .badArgument b
  | some side =>
    if b.cond.condition ≠ .service then .plain .wrongCondition b
    else if !(b.sec (b.endSection side)).heldBy lk then .plain .notHolder b
    else if (b.called side).isSome then .plain .already b
    else
      match b.queue side with
      | [] => .plain .ratingPending b
      | v :: _ =>
        match b.callCheck side (b.vessel v) with
        | some o => .plain o b
        | none => .plain .done (b.setVessel v { b.vessel v with state := .called }).refreshSignals

/-- UNCALL side (05 R92). -/
def ownUncall (lk : Link) (sideByte : Byte) (b : Block) : Answer :=
  match sideArg sideByte with
  | none => .plain .badArgument b
  | some side =>
    if !(b.sec (b.endSection side)).heldBy lk then .plain .notHolder b
    else if (b.called side).isSome then .plain .done (b.endCall side).refreshSignals
    else .plain .already b

/-! ## Booking (05 R89, R90) -/

/-- A vessel entered in a slot (05 R90). -/
def bookedVessel (lk : Link) (registration : W32) (length : Nat) (direction : Direction) (operator : W16) (cls cargo : Nat) (clock : W32) :
    Vessel :=
  { Machine.vesselFree with
    state := .booked, registration := registration, length := length, direction := direction, operator := operator, cls := cls,
    cargo := cargo, booked := clock, bookedBy := some lk }

/-- A slot entered at the tail of the rating queue (07 R124). -/
def Block.queueRating (b : Block) (v : Fin 16) : Block := b.setTariff { b.tariff with queue := b.tariff.queue ++ [v] }

/-- Whether a non-FREE slot carries a registration (05 R89). -/
def Block.registered (b : Block) (registration : W32) : Bool :=
  slotsAll.any (fun v => (b.vessel v).state != .free && (b.vessel v).registration == registration)

/-- Whether a length is greater than the usable length of every chamber C1..CN (05 R89). -/
def Block.tooLong (b : Block) (length : Nat) : Bool := b.chambersIn.all (fun c => decide ((b.config.chambers[c]).usable < length))

/-- The checks of BOOK after its arguments, but the last (05 R89). -/
def Block.bookCheck (b : Block) (registration : W32) (length : Nat) (direction : Direction) : Option OutcomeCode :=
  if b.registered registration then some .duplicateReg
  else if b.tooLong length then some .tooLong
  else if Config.reservationLimit ≤ b.reservations direction.side then some .queueFull
  else if Config.ratingDepth ≤ b.tariff.queue.length then some .ratingBusy
  else none

/-- BOOK (05 R89, R90). -/
def ownBook (lk : Link) (registration : W32) (length : W16) (directionByte : Byte) (operator : W16) (cls cargo : Byte) (b : Block) : Answer :=
  match directionArg directionByte with
  | none => .plain .badArgument b
  | some direction =>
    if registration = 0 ∨ length.toNat < 50 ∨ 1500 < length.toNat ∨ 15 < cls.toNat ∨ 7 < cargo.toNat then .plain .badArgument b
    else
      match b.bookCheck registration length.toNat direction with
      | some o => .plain o b
      | none =>
        match b.freeSlot with
        | none => .plain .tableFull b
        | some v =>
          .done (.slot v)
            ((b.setVessel v (bookedVessel lk registration length.toNat direction operator cls.toNat cargo.toNat b.clock)).queueRating v)

/-- DEFER v (05 R93). -/
def ownDefer (vByte : Byte) (b : Block) : Answer :=
  match b.slotArg vByte with
  | none => .plain .badArgument b
  | some v =>
    let side := (b.vessel v).direction.side
    match (b.vessel v).state with
    | .booked => .plain .ratingPending b
    | .waiting =>
      if (b.queue side).getLast? = some v then .plain .already b
      else .plain .done (b.setQueue side ((b.queue side).erase v ++ [v]))
    | _ => .plain .inProgress b

/-! ## Advancing (05 R94 to R97) -/

/-- Where a vessel goes: the section it crosses, and the chamber it enters, none when it leaves the flight (05 R94). -/
structure Crossing where
  gate : Fin 5
  dest : Option (Fin 4)
deriving DecidableEq, Repr

/-- The gate a vessel crosses, "found from the vessel's position and direction" (05 R94). -/
def Block.crossing (b : Block) (x : Vessel) : Crossing :=
  match x.position, x.direction with
  | .chamber c, .up => { gate := c.succ, dest := if h : c.val + 1 < b.n.val then some ⟨c.val + 1, by omega⟩ else none }
  | .chamber c, .down => { gate := c.castSucc, dest := if h : 0 < c.val then some ⟨c.val - 1, by omega⟩ else none }
  | _, d => { gate := b.endSection d.side, dest := some (b.endChamber d.side) }

/-- Whether a vessel is not where its movement starts: "BOOKED or WAITING; or IN_FLIGHT and not at the head of its chamber's list"
(05 R94). -/
def Block.outOfOrder (b : Block) (v : Fin 16) : Bool :=
  match (b.vessel v).state, (b.vessel v).position with
  | .called, _ => false
  | .inFlight, .chamber c => (b.list c).head? != some v
  | _, _ => true

/-- The checks of ADVANCE from the condition on (05 R94). -/
def Block.advanceCheck (b : Block) (lk : Link) (v : Fin 16) : Option OutcomeCode :=
  let x := b.vessel v
  let way := b.crossing x
  let entering : Bool := x.state == .called
  if b.cond.condition ≠ .service then some .wrongCondition
  else if !(b.sec way.gate).heldBy lk then some .notHolder
  else if b.outOfOrder v then some .outOfOrder
  else if (b.sec way.gate).gate ≠ .opened then some .inProgress
  else if entering && (x.officeHold || x.rateHold || x.rateStatus != .resolved) then some .accountHold
  else
    match way.dest.bind (fun c => b.acceptance c x) with
    | some o => some o
    | none => if entering && b.freeMeter.isNone then some .noMeter else none

/-- The admission of a CALLED vessel into its end chamber, steps 1 to 6 (05 R95). -/
def Block.enter (b : Block) (v : Fin 16) : Block :=
  let x := b.vessel v
  let side := x.direction.side
  let c := b.endChamber side
  let seq := b.cond.admissions + 1
  let b1 := (b.setQueue side ((b.queue side).erase v)).setList c (b.list c ++ [v])
  let b2 := (b1.setCond { b1.cond with admissions := seq }).setVessel v
    { x with
      state := .inFlight, position := .chamber c, admission := some seq, admitted := some b.clock,
      passageFee := (x.rate.map (fun r => passageFee r x.length)).getD 0 }
  b2.assignMeter v

/-- A vessel at the head of a chamber's list moved to the next chamber (05 R96). -/
def Block.moveOn (b : Block) (v : Fin 16) (src dest : Fin 4) : Block :=
  let b1 := b.setList src ((b.list src).erase v)
  (b1.setList dest (b1.list dest ++ [v])).setVessel v { b.vessel v with position := .chamber dest }

/-- A vessel at the head of an end chamber's list leaves the flight (05 R97). -/
def Block.leave (b : Block) (v : Fin 16) (src : Fin 4) : Block :=
  let b1 := b.setList src ((b.list src).erase v)
  ((b1.setVessel v { b.vessel v with state := .cleared, position := .none, exited := some b.clock }).stopMeter v).raise
    (.vesselCleared v false)

/-- An ADVANCE that passes (05 R95 to R97). -/
def Block.advanced (b : Block) (v : Fin 16) : Block :=
  match (b.vessel v).position, (b.crossing (b.vessel v)).dest with
  | .chamber src, some dest => b.moveOn v src dest
  | .chamber src, none => b.leave v src
  | _, _ => b.enter v

/-- ADVANCE v (05 R94). -/
def ownAdvance (lk : Link) (vByte : Byte) (b : Block) : Answer :=
  match b.slotArg vByte with
  | none => .plain .badArgument b
  | some v =>
    if (b.vessel v).state = .cleared then .plain .already b
    else
      match b.advanceCheck lk v with
      | some o => .plain o b
      | none => .plain .done (b.advanced v).refreshSignals

/-! ## Withdrawal, holds, re-rating -/

/-- A vessel withdrawn: out of the rating queue and its approach queue, CLEARED, ready for closing and written when the journal has
room; VESSEL_CLEARED (05 R99, 09 R158). -/
def Block.withdrawn (b : Block) (v : Fin 16) : Block :=
  let x := b.vessel v
  let side := x.direction.side
  let b1 := b.leaveRating v
  let b2 := b1.setQueue side ((b1.queue side).erase v)
  let b3 := b2.setVessel v { x with state := .cleared, withdrawn := true, position := .none }
  ((b3.ready v).raise (.vesselCleared v true)).drain.refreshSignals

/-- WITHDRAW v (05 R99). -/
def ownWithdraw (vByte : Byte) (b : Block) : Answer :=
  match b.slotArg vByte with
  | none => .plain .badArgument b
  | some v =>
    match (b.vessel v).state with
    | .inFlight | .cleared => .plain .inProgress b
    | _ => .plain .done (b.withdrawn v)

/-- HOLD v (05 R100). -/
def ownHold (vByte : Byte) (b : Block) : Answer :=
  match b.slotArg vByte with
  | none => .plain .badArgument b
  | some v =>
    let x := b.vessel v
    if x.officeHold then .plain .already b
    else
      .plain .done
        (b.setVessel v { x with officeHold := true, state := if x.state = .called then .waiting else x.state }).refreshSignals

/-- UNHOLD v (05 R100). -/
def ownUnhold (vByte : Byte) (b : Block) : Answer :=
  match b.slotArg vByte with
  | none => .plain .badArgument b
  | some v =>
    let x := b.vessel v
    if x.officeHold then .plain .done (b.setVessel v { x with officeHold := false }) else .plain .already b

/-- RERATE v (05 R101). -/
def ownRerate (vByte : Byte) (b : Block) : Answer :=
  match b.slotArg vByte with
  | none => .plain .badArgument b
  | some v =>
    let x := b.vessel v
    match x.state with
    | .booked | .waiting =>
      if x.rateStatus = .pending then .plain .already b
      else if Config.ratingDepth ≤ b.tariff.queue.length then .plain .ratingBusy b
      else .plain .done ((b.setVessel v { x with rateStatus := .pending, rate := none }).queueRating v)
    | _ => .plain .inProgress b

namespace Machine

/-- BOOK. -/
def execBook (lk : Link) (tag : Byte) (registration : W32) (length : W16) (direction : Byte) (operator : W16) (cls cargo : Byte) (s : State) :
    Host.Outcome State Fault Refusal :=
  s.act fun b =>
    b.request lk 0x40 tag (bytesOf32 registration ++ bytesOf16 length ++ [direction] ++ bytesOf16 operator ++ [cls, cargo])
      (ownBook lk registration length direction operator cls cargo)

/-- CALL. -/
def execCall (lk : Link) (tag side : Byte) (s : State) : Host.Outcome State Fault Refusal :=
  s.act fun b => b.request lk 0x41 tag [side] (ownCall lk side)

/-- UNCALL. -/
def execUncall (lk : Link) (tag side : Byte) (s : State) : Host.Outcome State Fault Refusal :=
  s.act fun b => b.request lk 0x42 tag [side] (ownUncall lk side)

/-- DEFER. -/
def execDefer (lk : Link) (tag v : Byte) (s : State) : Host.Outcome State Fault Refusal :=
  s.act fun b => b.request lk 0x43 tag [v] (ownDefer v)

/-- ADVANCE. -/
def execAdvance (lk : Link) (tag v : Byte) (s : State) : Host.Outcome State Fault Refusal :=
  s.act fun b => b.request lk 0x44 tag [v] (ownAdvance lk v)

/-- WITHDRAW. -/
def execWithdraw (lk : Link) (tag v : Byte) (s : State) : Host.Outcome State Fault Refusal :=
  s.act fun b => b.request lk 0x45 tag [v] (ownWithdraw v)

/-- HOLD. -/
def execHold (lk : Link) (tag v : Byte) (s : State) : Host.Outcome State Fault Refusal :=
  s.act fun b => b.request lk 0x46 tag [v] (ownHold v)

/-- UNHOLD. -/
def execUnhold (lk : Link) (tag v : Byte) (s : State) : Host.Outcome State Fault Refusal :=
  s.act fun b => b.request lk 0x47 tag [v] (ownUnhold v)

/-- RERATE. -/
def execRerate (lk : Link) (tag v : Byte) (s : State) : Host.Outcome State Fault Refusal :=
  s.act fun b => b.request lk 0x48 tag [v] (ownRerate v)

end Machine
end Sys2Proof
end

