-- ==== Sys2Proof/Machine/Claims.lean ====
section
/-! DEFINITION. The claim fields of the sections and the lapse of a lease (03). -/
namespace Sys2Proof

/-- CLAIM k (03 R48). -/
def ownClaim (lk : Link) (kByte : Byte) (b : Block) : Answer :=
  match b.sectionArg kByte with
  | none => .plain .badArgument b
  | some k =>
    let x := b.sec k
    match x.holder with
    | none => if x.orphan then .plain .orphaned b else .plain .done (b.setSec k { x with holder := some lk })
    | some h =>
      if h = lk then .plain .already b
      else if x.waiter = some lk then .plain .already b
      else .plain .queued (b.setSec k { x with waiter := some lk })

/-- CANCEL CLAIM k (03 R50). -/
def ownCancelClaim (lk : Link) (kByte : Byte) (b : Block) : Answer :=
  match b.sectionArg kByte with
  | none => .plain .badArgument b
  | some k =>
    let x := b.sec k
    if x.waiter = some lk then .plain .done (b.setSec k { x with waiter := none }) else .plain .already b

/-- Whether a vessel of the side of an end section is CALLED (03 R51). -/
def Block.calledAt (b : Block) (k : Fin 5) : Bool :=
  (k.val == 0 && (b.called .lower).isSome) || (k == b.n && (b.called .upper).isSome)

/-- A section released: to its waiter with CLAIM_GRANTED, or to nobody (03 R52). -/
def Block.handOn (b : Block) (k : Fin 5) : Block :=
  let x := b.sec k
  match x.waiter with
  | some w => (b.setSec k { x with holder := some w, waiter := none }).raise (.claimGranted k w false)
  | none => b.setSec k { x with holder := none }

/-- RELEASE k (03 R51). -/
def ownRelease (lk : Link) (kByte : Byte) (b : Block) : Answer :=
  match b.sectionArg kByte with
  | none => .plain .badArgument b
  | some k =>
    let x := b.sec k
    if !x.heldBy lk then .plain .notHolder b
    else if x.moving then .plain .inProgress b
    else if x.transfer.isSome then .plain .inProgress b
    else if x.mode = .manual then .plain .manualActive b
    else if b.calledAt k then .plain .inProgress b
    else .plain .done (b.handOn k)

/-- TAKE OVER k (03 R53). -/
def ownTakeOver (lk : Link) (kByte : Byte) (b : Block) : Answer :=
  match b.sectionArg kByte with
  | none => .plain .badArgument b
  | some k =>
    let x := b.sec k
    match x.holder with
    | some h => if h = lk then .plain .already b else .plain .inProgress b
    | none => if x.orphan then .plain .done (b.setSec k { x with holder := some lk, orphan := false }) else .plain .badArgument b

/-! ## A lapse under RELEASE (03 R59, R60) -/

/-- The section handed on by a lapse: to its waiter with TAKEN_OVER, or orphaned (03 R60). -/
def Block.lapseHandOn (b : Block) (k : Fin 5) : Block :=
  let x := b.sec k
  match x.waiter with
  | some w => (b.setSec k { x with holder := some w, waiter := none }).raise (.claimGranted k w true)
  | none => b.setSec k { x with holder := none, orphan := true }

/-- Step 2: a MANUAL section returns to AUTO with its latches reset, and a drawn sluice is shut (03 R59). -/
def Block.lapseManual (b : Block) (k : Fin 5) : Block :=
  let x := b.sec k
  if x.mode = .manual then
    let b1 := (b.latch k latchNone latchAll).setSec k { x with mode := .auto }
    if x.sluice = .cracked ∨ x.sluice = .opened then b1.shutSluice k else b1
  else b

/-- The call of an end section's side ended (03 R59, step 4). -/
def Block.lapseCall (b : Block) (k : Fin 5) : Block :=
  let b1 := if k.val = 0 then b.endCall .lower else b
  if k = b.n then b1.endCall .upper else b1

/-- The signal of an end section returned to AUTO (06 R110). -/
def Block.signalAuto (b : Block) (side : Side) : Block := b.setSignal side { b.signal side with mode := .auto }

/-- The signals of an end section that the lapsed link held (06 R110). -/
def Block.lapseSignal (b : Block) (k : Fin 5) : Block :=
  let b1 := if k.val = 0 then b.signalAuto .lower else b
  if k = b.n then b1.signalAuto .upper else b1

/-- Steps 1 to 5 at one section, when the lapsed link holds it (03 R59; "Both gate drive latches are reset" in any case, 02 R45). -/
def Block.lapseSection (lk : Link) (b : Block) (k : Fin 5) : Block :=
  if (b.sec k).heldBy lk then
    (((((b.stopIfMoving k).latch k latchNone latchGates).lapseManual k).lapseCall k).lapseSignal k).lapseHandOn k
  else b

/-- "the lapsed link is removed as waiter from every section where it waits" (03 R60). -/
def Block.dropWait (lk : Link) (b : Block) (k : Fin 5) : Block :=
  if (b.sec k).waiter = some lk then b.setSec k { b.sec k with waiter := none } else b

/-- The RELEASE action at its link's lapse (03 R59, R60, log 34). -/
def Block.lapseRelease (b : Block) (lk : Link) : Block :=
  (b.secsIn.foldl (Block.dropWait lk) (b.secsIn.foldl (Block.lapseSection lk) b)).refreshSignals

/-- LEASE_EXPIRY (03 R57): due while a RUNNING lease stands at 0. Under KEEP nothing further follows (R58). -/
def Block.leaseExpiry (b : Block) (lk : Link) : Block :=
  let x := (b.link lk).lease
  if x.state = .running ∧ x.counter = 0 then
    let b1 := (b.setLease lk { x with state := .lapsed }).raise (.leaseLapsed lk)
    if x.action = .release then b1.lapseRelease lk else b1
  else b

namespace Machine

/-- CLAIM. -/
def execClaim (lk : Link) (tag k : Byte) (s : State) : Host.Outcome State Fault Refusal :=
  s.act fun b => b.request lk 0x10 tag [k] (ownClaim lk k)

/-- CANCEL_CLAIM. -/
def execCancelClaim (lk : Link) (tag k : Byte) (s : State) : Host.Outcome State Fault Refusal :=
  s.act fun b => b.request lk 0x11 tag [k] (ownCancelClaim lk k)

/-- RELEASE. -/
def execRelease (lk : Link) (tag k : Byte) (s : State) : Host.Outcome State Fault Refusal :=
  s.act fun b => b.request lk 0x12 tag [k] (ownRelease lk k)

/-- TAKE_OVER. -/
def execTakeOver (lk : Link) (tag k : Byte) (s : State) : Host.Outcome State Fault Refusal :=
  s.act fun b => b.request lk 0x13 tag [k] (ownTakeOver lk k)

/-- LEASE_EXPIRY. -/
def execLeaseExpiry (lk : Link) (s : State) : Host.Outcome State Fault Refusal := s.act fun b => b.leaseExpiry lk

end Machine
end Sys2Proof
end

