-- ==== Sys2Proof/Machine/Service.lean ====
section
/-! DEFINITION. The Condition Controller (10): opening and ending service, the emergency stop, CONFIGURE, and the two resets. -/
namespace Sys2Proof

/-! ## Conditions -/

/-- A change of condition with its CONDITION_CHANGE (10 R169). -/
def Block.changeCondition (b : Block) (new : Condition) (cause : ConditionCause) (link : Option Link) : Block :=
  (b.setCond { b.cond with condition := new, lastCause := cause, causeLink := link }).raise
    (.conditionChange new b.cond.condition cause link)

/-- OPEN SERVICE (10 R170): what refuses it, with the lowest-numbered section or chamber. -/
def Block.openServiceCheck (b : Block) : Option (OutcomeCode × Payload) :=
  if b.cond.condition = .service then some (.already, .none)
  else if b.cond.condition = .stopped then some (.wrongCondition, .none)
  else if b.estopState ≠ .released then some (.wrongCondition, .none)
  else
    match b.secsIn.find? (fun k => (b.sec k).mode == .manual) with
    | some k => some (.manualActive, .sectionNo k)
    | none =>
      match b.secsIn.find? (fun k => (b.sec k).fault.isSome) with
      | some k => some (.faultPending, .sectionNo k)
      | none =>
        match b.chambersIn.find? (fun c => (b.chamber c).state == .transfer) with
        | some c => some (.inProgress, .chamberNo c)
        | none => (b.chambersIn.find? (fun c => (b.chamber c).state == .unknown)).map (fun c => (.notLevel, .chamberNo c))

/-- OPEN SERVICE (10 R170). -/
def ownOpenService (lk : Link) (b : Block) : Answer :=
  match b.openServiceCheck with
  | some (o, p) => .naming o p b
  | none => .plain .done (b.changeCondition .service .openService (some lk)).refreshSignals

/-- The CALLED vessel of either side, the lower one's first (log 13). -/
def Block.anyCalled (b : Block) : Option (Fin 16) :=
  match b.called .lower with
  | some v => some v
  | none => b.called .upper

/-- The sections of the flight that satisfy a test, the lowest first. -/
def Block.firstSection (b : Block) (p : Section → Bool) : Option (Fin 5) := b.secsIn.find? (fun k => p (b.sec k))

/-- What refuses END SERVICE IN_PROGRESS: "A refusal names the first cause found: the vessel slot, or the section" (10 R171). -/
def Block.endServiceCause (b : Block) : Option Payload :=
  match b.anyCalled with
  | some v => some (.slot v)
  | none =>
    match slotsAll.find? (fun v => (b.vessel v).state == .inFlight) with
    | some v => some (.slot v)
    | none =>
      match b.firstSection Section.moving with
      | some k => some (.sectionNo k)
      | none =>
        match b.firstSection (fun x => x.transfer.isSome) with
        | some k => some (.sectionNo k)
        | none => (b.firstSection (fun x => x.gate != .closed)).map .sectionNo

/-- END SERVICE (10 R171). -/
def ownEndService (lk : Link) (b : Block) : Answer :=
  match b.cond.condition with
  | .setup => .plain .already b
  | .stopped => .plain .wrongCondition b
  | .service =>
    match b.endServiceCause with
    | some p => .naming .inProgress p b
    | none => .plain .done (b.changeCondition .setup .endService (some lk)).refreshSignals

/-- The entry to STOPPED at one section: its motion stopped, a drawn sluice of a MANUAL section shut, a running transfer given ABORTED
(10 R174). -/
def Block.stopSection (b : Block) (k : Fin 5) : Block :=
  let b1 := b.stopIfMoving k
  let x := b1.sec k
  let b2 := if x.mode = .manual ∧ (x.sluice = .cracked ∨ x.sluice = .opened) then b1.shutSluice k else b1
  b2.giveCause k .aborted

/-- "all four drive latches of every section are reset" (10 R174). -/
def Block.latchesOff (b : Block) : Block := sectionsAll.foldl (fun a k => a.latch k latchNone latchAll) b

/-- The entry to STOPPED (10 R174). -/
def Block.enterStopped (b : Block) (cause : ConditionCause) (link : Option Link) : Block :=
  ((b.secsIn.foldl Block.stopSection b).latchesOff.endCalls.changeCondition .stopped cause link).refreshSignals

/-- STOP ALL (10 R172). -/
def ownStopAll (lk : Link) (b : Block) : Answer :=
  if b.cond.condition = .stopped then .plain .already b else .plain .done (b.enterStopped .stopAll (some lk))

/-- An arrival of the ESTOP input (10 R173); the ESTOP state is the reading itself. -/
def Block.estopEffect (b : Block) (asserted : Bool) : Block :=
  let b1 := b.raise (.estop asserted)
  if asserted ∧ b.cond.condition ≠ .stopped then b1.enterStopped .estop none else b1

/-- RESUME (10 R175). -/
def ownResume (lk : Link) (b : Block) : Answer :=
  if b.cond.condition ≠ .stopped then .plain .wrongCondition b
  else if b.estopState ≠ .released then .naming .wrongCondition (.estopState b.estopState) b
  else .plain .done (b.changeCondition .setup .resume (some lk)).refreshSignals

/-! ## CONFIGURE (10 R177 to R179) -/

/-- A chamber's parameters replaced. -/
def Block.setChamberCfg (b : Block) (c : Fin 4) (x : ChamberCfg) : Block :=
  b.setConfig { b.config with chambers := b.config.chambers.set c x }

/-- A section's parameters replaced. -/
def Block.setSectionCfg (b : Block) (k : Fin 5) (x : SectionCfg) : Block :=
  b.setConfig { b.config with sections := b.config.sections.set k x }

/-- The three channels of a section stopped (04 R70). -/
def Block.stopChannels (b : Block) (k : Fin 5) : Block :=
  let t := b.timer k
  b.setTimer k { stroke := t.stroke.stop, stall := t.stall.stop, transfer := t.transfer.stop }

/-- A section taken out of the flight (02 R22, 03 R47). -/
def Block.dropSection (b : Block) (k : Fin 5) : Block :=
  let b1 := (b.stopIfMoving k).latch k latchNone latchPaddles
  (b1.setSec k { b1.sec k with mode := .auto, fault := none, holder := none, waiter := none, orphan := false }).stopChannels k

/-- A section set as after a reset: its record, its channels and latches, and the SHUT START (02 R46, 01 R12, 04 R82). -/
def Block.resetSection (b : Block) (k : Fin 5) : Block :=
  (((b.setSec k Machine.sectionReset).setDrive k Machine.drivesReset).stopChannels k).shutStart k

/-- The readings of a restored section offered as first readings; its two limits are one, the one that leaves both with a reading
(02 R46, 04 R67). Those of its chambers change no state (01 R6). -/
def Block.offerReadings (b : Block) (k : Fin 5) : Block :=
  let b1 := (b.reading (.closedLimit k)).elim b (fun x => b.limitEffect k .closedLimit none x)
  let b2 := (b.reading (.beam k)).elim b1 (fun x => b1.beamEffect k x)
  let b3 := (b.reading (.head k)).elim b2 (fun x => b2.headEffect k x)
  (b.reading (.paddle k)).elim b3 (fun x => b3.paddleArrival k x)

/-- A change of N (10 R179). The restored sections are offered their readings in ascending number: the model's choice, which decides the
GATE_FAULT that stands last when several find a LIMIT_CONFLICT (log 38). -/
def Block.changeN (b : Block) (n : Fin 5) : Block :=
  let out := sectionsAll.filter (fun k => decide (n < k ∧ k ≤ b.n))
  let restored := sectionsAll.filter (fun k => decide (b.n < k ∧ k ≤ n))
  let b1 := out.foldl Block.dropSection b
  let b2 := chambersAll.foldl (fun a c => a.setChamberState c .unknown) (b1.setConfig { b1.config with n := n })
  (restored.foldl Block.offerReadings (restored.foldl Block.resetSection b2)).refreshSignals

/-- A change of a full stroke: "brings the position down to the new full stroke" (02 R23). -/
def Block.changeStroke (b : Block) (k : Fin 5) (stroke : Nat) : Block :=
  let b1 := b.setSectionCfg k { b.config.sections[k] with stroke := stroke }
  b1.setSec k { b1.sec k with position := (b1.sec k).position.map (fun p => min p stroke) }

/-- A change of a lease period (03 R55). -/
def Lease.withPeriod (x : Lease) (period : Nat) : Lease :=
  { x with
    period := period, counter := period,
    state := if x.state = .lapsed then .lapsed else if period = 0 then .off else .running }

/-- The value a parameter holds. -/
def Block.parameterValue (b : Block) (p : Parameter) : Nat :=
  match p with
  | .chamberCount => b.n.val
  | .usableLength c => (b.config.chambers[c]).usable
  | .vesselLimit c => (b.config.chambers[c]).limit
  | .fullStroke k => (b.config.sections[k]).stroke
  | .overtravelMargin k => (b.config.sections[k]).margin
  | .stallTicks k => (b.config.sections[k]).stallTicks
  | .crackDelay k => (b.config.sections[k]).crackDelay
  | .transferLimit k => (b.config.sections[k]).transferLimit
  | .minimumTransfer k => (b.config.sections[k]).minTransfer
  | .shutLimit k => (b.config.sections[k]).shutLimit
  | .flashHalfPeriod => b.config.flashHalf
  | .leasePeriod lk => (b.link lk).lease.period
  | .leaseAction lk => match (b.link lk).lease.action with | .keep => 0 | .release => 1
  | .journalThreshold => b.config.threshold

/-- A parameter written with a value in its range (10 R178, R179). -/
def Block.writeParameter (b : Block) (p : Parameter) (x : Nat) : Block :=
  match p with
  | .chamberCount => if h : x < 5 then b.changeN ⟨x, h⟩ else b
  | .usableLength c => b.setChamberCfg c { b.config.chambers[c] with usable := x }
  | .vesselLimit c => b.setChamberCfg c { b.config.chambers[c] with limit := x }
  | .fullStroke k => b.changeStroke k x
  | .overtravelMargin k => b.setSectionCfg k { b.config.sections[k] with margin := x }
  | .stallTicks k => b.setSectionCfg k { b.config.sections[k] with stallTicks := x }
  | .crackDelay k => b.setSectionCfg k { b.config.sections[k] with crackDelay := x }
  | .transferLimit k => b.setSectionCfg k { b.config.sections[k] with transferLimit := x }
  | .minimumTransfer k => b.setSectionCfg k { b.config.sections[k] with minTransfer := x }
  | .shutLimit k => b.setSectionCfg k { b.config.sections[k] with shutLimit := x }
  | .flashHalfPeriod => b.setConfig { b.config with flashHalf := x }
  | .leasePeriod lk => b.setLease lk ((b.link lk).lease.withPeriod x)
  | .leaseAction lk => b.setLease lk { (b.link lk).lease with action := if x = 0 then .keep else .release }
  | .journalThreshold => b.setConfig { b.config with threshold := x }

/-- "An item that writes a parameter with the value it already holds changes nothing" (10 R177). -/
def Block.applyParameter (b : Block) (p : Parameter) (x : Nat) : Block :=
  if b.parameterValue p = x then b else b.writeParameter p x

/-- Whether the state refuses an item that changes a parameter (10 R177). -/
def Block.parameterBusy (b : Block) (p : Parameter) : Bool :=
  match p with
  | .chamberCount => slotsAll.any (fun v => (b.vessel v).state == .inFlight) || sectionsAll.any (fun k => (b.sec k).transfer.isSome)
  | .usableLength c | .vesselLimit c => !(b.list c).isEmpty
  | _ => false

/-- What refuses one item, judged "against the state as it stands before the request" (10 R177). -/
def Block.itemCheck (b : Block) (i : ConfigItem) : Option OutcomeCode :=
  match parameterArg i.param i.index with
  | none => some .badArgument
  | some p =>
    if !p.inRange i.value.toNat then some .badArgument
    else if b.parameterValue p ≠ i.value.toNat ∧ b.parameterBusy p then some .inProgress
    else none

/-- The first item that fails, counting from `n`, with its outcome. -/
def Block.firstBadItem (b : Block) (n : Nat) (items : List ConfigItem) : Option (OutcomeCode × Nat) :=
  match items with
  | [] => none
  | i :: rest =>
    match b.itemCheck i with
    | some o => some (o, n)
    | none => b.firstBadItem (n + 1) rest

/-- One item applied. -/
def Block.applyItem (b : Block) (i : ConfigItem) : Block :=
  match parameterArg i.param i.index with
  | some p => b.applyParameter p i.value.toNat
  | none => b

/-- CONFIGURE (10 R177; order of the checks, log 24). -/
def ownConfigure (items : List ConfigItem) (b : Block) : Answer :=
  if items.length = 0 ∨ 12 < items.length then .plain .badArgument b
  else if b.cond.condition ≠ .setup then .plain .wrongCondition b
  else
    match b.firstBadItem 1 items with
    | some (o, n) => .naming o (.item n) b
    | none => .plain .done (items.foldl Block.applyItem b)

/-! ## The resets (10 R181, R182) -/

/-- The power-on reset; a RESET pin held through it stays held (10 R182, log 28). -/
def Block.powerOn (b : Block) : Block := Machine.blockPowerOn b.resetHeld

/-- A lease loaded with its period (03 R55). -/
def Lease.load (x : Lease) : Lease := { x with counter := x.period, state := if x.period = 0 then .off else .running }

/-- A link record after a warm reset (11 R183, 03 R55). -/
def LinkRec.warm (x : LinkRec) : LinkRec := { Machine.linkPowerOn with lease := x.lease.load }

/-- A call ended by a warm reset (05 R104). -/
def Vessel.warm (x : Vessel) : Vessel := { x with state := if x.state = .called then .waiting else x.state }

/-- Whether a vessel is entered again in the rating queue at a warm reset (05 R104). -/
def Vessel.reentered (x : Vessel) : Bool := x.state == .booked || (x.state == .waiting && x.rateStatus == .pending)

/-- The Tariff Unit after a warm reset: store, root and windows kept (07 R139), the PENDING vessels entered again (05 R104). -/
def Tariff.warm (t : Tariff) (queue : List (Fin 16)) : Tariff :=
  { Machine.tariffPowerOn with store := t.store, root := t.root, windows := t.windows, queue := queue }

/-- The warm reset, taken at the assertion of the RESET pin (10 R182). Sections above N keep their records (log 16). -/
def Block.warm (b : Block) : Block :=
  let vessels := b.vessels.map Vessel.warm
  let b1 : Block :=
    { b with
      links := { u := b.links.u.warm, l := b.links.l.warm, t := b.links.t.warm },
      notices := { u := Machine.noticePowerOn, l := Machine.noticePowerOn, t := Machine.noticePowerOn },
      cond := { b.cond with condition := .setup, lastCause := .reset, causeLink := none },
      resetHeld := true,
      chambers := b.chambers.map (fun x => { x with state := .unknown }),
      quals := Vector.replicate 40 Machine.qualifierReset,
      flasher := Machine.flasherStart b.config.flashHalf,
      drives := Vector.replicate 5 Machine.drivesReset,
      lamps := { lower := Machine.lampsDark, upper := Machine.lampsDark },
      vessels := vessels,
      signals := { lower := Machine.signalReset, upper := Machine.signalReset },
      tariff := b.tariff.warm (slotsAll.filter (fun v => (vessels[v]).reentered)) }
  b1.secsIn.foldl Block.resetSection (sectionsAll.foldl Block.stopChannels b1)

/-- The release of the RESET pin: the leases are loaded and both RED latches set (10 R182, 06 R117). -/
def Block.pinRelease (b : Block) : Block :=
  if b.resetHeld then
    let b1 := ((b.setLease .u (b.link .u).lease.load).setLease .l (b.link .l).lease.load).setLease .t (b.link .t).lease.load
    ((b1.setLamp .lower Machine.lampsRed).setLamp .upper Machine.lampsRed).setHeld false
  else b

namespace Machine

/-- OPEN_SERVICE. -/
def execOpenService (lk : Link) (tag : Byte) (s : State) : Host.Outcome State Fault Refusal :=
  s.act fun b => b.request lk 0x60 tag [] (ownOpenService lk)

/-- END_SERVICE. -/
def execEndService (lk : Link) (tag : Byte) (s : State) : Host.Outcome State Fault Refusal :=
  s.act fun b => b.request lk 0x61 tag [] (ownEndService lk)

/-- STOP_ALL. -/
def execStopAll (lk : Link) (tag : Byte) (s : State) : Host.Outcome State Fault Refusal :=
  s.act fun b => b.request lk 0x62 tag [] (ownStopAll lk)

/-- RESUME. -/
def execResume (lk : Link) (tag : Byte) (s : State) : Host.Outcome State Fault Refusal :=
  s.act fun b => b.request lk 0x63 tag [] (ownResume lk)

/-- The bytes of one item (13 R203). -/
def itemBytes (i : ConfigItem) : List Byte := [i.param, i.index] ++ bytesOf16 i.value

/-- CONFIGURE. -/
def execConfigure (lk : Link) (tag : Byte) (items : List ConfigItem) (s : State) : Host.Outcome State Fault Refusal :=
  s.act fun b => b.request lk 0x64 tag (items.flatMap itemBytes) (ownConfigure items)

/-- POWER_ON_RESET. -/
def execPowerOnReset (s : State) : Host.Outcome State Fault Refusal := s.act Block.powerOn

/-- WARM_RESET. -/
def execWarmReset (s : State) : Host.Outcome State Fault Refusal := s.act Block.warm

/-- RESET_PIN_RELEASE. -/
def execResetPinRelease (s : State) : Host.Outcome State Fault Refusal := s.act Block.pinRelease

end Machine
end Sys2Proof
end

