-- ==== Sys2Proof/Machine/Notices.lean ====
section
/-! DEFINITION. The notice requests (11 R197, R198) and the FETCH NOTICE payload (13 R206). -/
namespace Sys2Proof

/-- The sixteen kinds in order. -/
def kindsAll : List (Fin 16) := slotsAll

/-- The number of a chamber as the requests name it. -/
def chamberNumber (c : Fin 4) : Nat := c.val + 1

/-- 02 R24 order. -/
def FaultKind.number (f : FaultKind) : Nat :=
  match f with
  | .stall => 0
  | .overtravel => 1
  | .limitConflict => 2
  | .drift => 3
  | .shutFail => 4

/-- 13 R206. -/
def TransferEnd.number (e : TransferEnd) : Nat :=
  match e with
  | .timeout => 0
  | .aborted => 1
  | .reachOut => 2
  | .short => 3
  | .depthMismatch => 4
  | .shutFail => 5

/-- 13 R206. -/
def WalkFailure.number (f : WalkFailure) : Nat :=
  match f with
  | .storeRange => 1
  | .noTariff => 2
  | .badTable => 3
  | .badLeaf => 4
  | .badIndirect => 5

/-- 13 R206. -/
def Condition.number (c : Condition) : Nat :=
  match c with
  | .setup => 0
  | .service => 1
  | .stopped => 2

/-- "cause, in the order of R168" (13 R206). -/
def ConditionCause.number (c : ConditionCause) : Nat :=
  match c with
  | .powerOn => 0
  | .reset => 1
  | .openService => 2
  | .endService => 3
  | .stopAll => 4
  | .estop => 5
  | .resume => 6

/-- RED 0, GREEN 1 (13 R206). -/
def Lamp.number (l : Lamp) : Nat :=
  match l with
  | .red => 0
  | .green => 1

/-- The argument bytes of a notice, unused ones left out (13 R206). -/
def Notice.argument (n : Notice) : List Byte :=
  match n with
  | .gateDone k opened => [byteOf k.val, markByte opened]
  | .gateFault k kind => [byteOf k.val, byteOf kind.number]
  | .transferDone k ticks => byteOf k.val :: bytesOf16 (BitVec.ofNat 16 ticks)
  | .transferFault k why => [byteOf k.val, byteOf why.number]
  | .levelFault c => [byteOf (chamberNumber c)]
  | .lineBlocked k => [byteOf k.val]
  | .claimGranted k holder takenOver => [byteOf k.val, byteOf holder.number, markByte takenOver]
  | .leaseLapsed lk => [byteOf lk.number]
  | .vesselRated v none => [byteOf v.val, 1, 0]
  | .vesselRated v (some c) => [byteOf v.val, 2, byteOf c.number]
  | .vesselCleared v withdrawn => [byteOf v.val, markByte withdrawn]
  | .lampFault side lamp => [byteOf side.number, byteOf lamp.number]
  | .reachChange side inBand => [byteOf side.number, markByte !inBand]
  | .journalThreshold count newest => byteOf count :: bytesOf32 newest
  | .journalFull newest closing => bytesOf32 newest ++ [byteOf closing]
  | .conditionChange new old cause link =>
    [byteOf new.number, byteOf old.number, byteOf cause.number, (link.map (fun lk => byteOf lk.number)).getD 0xFF]
  | .estop asserted => [markByte asserted]

/-- The payload of a FETCH NOTICE that returns an entry, with `left` entries pending after it (13 R206). -/
def NoticeEntry.payload (e : NoticeEntry) (left : Nat) : List Byte :=
  ([byteOf e.notice.kind.val, markByte e.overrun, byteOf left] ++ e.notice.argument ++ List.replicate 5 0).take 8

/-- The payload when nothing is pending (13 R206). -/
def noNotice : List Byte := [0xFF, 0, 0, 0, 0, 0, 0, 0]

/-- Whether an entry of a kind is pending. -/
def NoticeRec.pendingAt (r : NoticeRec) (k : Fin 16) : Bool := (r.entries[k]).isSome

/-- The pending entry with the highest level, and among those the lowest kind number (11 R197). -/
def NoticeRec.best (r : NoticeRec) : Option (Fin 16) :=
  kindsAll.foldl
    (fun best k =>
      if r.pendingAt k then
        match best with
        | none => some k
        | some j => if (r.levels[j]).val < (r.levels[k]).val then some k else some j
      else best)
    none

/-- The kind a FETCH NOTICE chooses (11 R197). -/
def NoticeRec.choose (r : NoticeRec) : Option (Fin 16) :=
  if r.urgent0.enable && r.pendingAt r.urgent0.kind then some r.urgent0.kind
  else if r.urgent1.enable && r.pendingAt r.urgent1.kind then some r.urgent1.kind
  else r.best

/-- How many entries are pending. -/
def NoticeRec.pendingCount (r : NoticeRec) : Nat := (kindsAll.filter r.pendingAt).length

/-- The record with the entry of a kind removed. -/
def NoticeRec.drop (r : NoticeRec) (k : Fin 16) : NoticeRec := { r with entries := r.entries.set k none }

/-- FETCH NOTICE (11 R197). -/
def ownFetchNotice (lk : Link) (b : Block) : Answer :=
  let r := b.notice lk
  match r.choose with
  | none => .done (.bytes noNotice) b
  | some k =>
    match r.entries[k] with
    | none => .done (.bytes noNotice) b
    | some e => .done (.bytes (e.payload (r.drop k).pendingCount)) (b.setNotice lk (r.drop k))

/-- A pair of SET NOTICE LEVEL whose kind and level are in range. -/
def noticePair (p : Byte × Byte) : Option (Fin 16 × Fin 4) :=
  match finArg 16 p.1, finArg 4 p.2 with
  | some k, some l => some (k, l)
  | _, _ => none

/-- One pair applied: "A pair that sets a level of 0 discards a pending entry of that kind" (11 R198). -/
def NoticeRec.setLevel (r : NoticeRec) (p : Fin 16 × Fin 4) : NoticeRec :=
  let r1 := { r with levels := r.levels.set p.1 p.2 }
  if p.2 = 0 then r1.drop p.1 else r1

/-- SET NOTICE LEVEL (11 R198, 13 R203). -/
def ownSetNoticeLevel (lk : Link) (pairs : List (Byte × Byte)) (b : Block) : Answer :=
  if pairs.length = 0 ∨ 16 < pairs.length then .plain .badArgument b
  else
    match pairs.mapM noticePair with
    | none => .plain .badArgument b
    | some ps => .plain .done (b.setNotice lk (ps.foldl NoticeRec.setLevel (b.notice lk)))

/-- SET URGENT (11 R198; enable as a mark, log 23). -/
def ownSetUrgent (lk : Link) (slot enable kind : Byte) (b : Block) : Answer :=
  match finArg 2 slot, markArg enable, finArg 16 kind with
  | some i, some e, some k =>
    let r := b.notice lk
    let u : Urgent := { enable := e, kind := k }
    .plain .done (b.setNotice lk (if i = 0 then { r with urgent0 := u } else { r with urgent1 := u }))
  | _, _, _ => .plain .badArgument b

/-- SET LINE THRESHOLD (11 R198). -/
def ownSetLineThreshold (lk : Link) (threshold : Byte) (b : Block) : Answer :=
  if 1 ≤ threshold.toNat ∧ threshold.toNat ≤ 3 then .plain .done (b.setNotice lk { b.notice lk with threshold := threshold.toNat })
  else .plain .badArgument b

/-- READ NOTICE STATE (11 R198). -/
def ownReadNoticeState (lk : Link) (b : Block) : Answer := .done (.noticeState (b.notice lk) (b.notice lk).line) b

namespace Machine

/-- FETCH_NOTICE. -/
def execFetchNotice (lk : Link) (tag : Byte) (s : State) : Host.Outcome State Fault Refusal :=
  s.act fun b => b.request lk 0xA0 tag [] (ownFetchNotice lk)

/-- SET_NOTICE_LEVEL. -/
def execSetNoticeLevel (lk : Link) (tag : Byte) (pairs : List (Byte × Byte)) (s : State) : Host.Outcome State Fault Refusal :=
  s.act fun b => b.request lk 0xA1 tag (pairs.flatMap (fun p => [p.1, p.2])) (ownSetNoticeLevel lk pairs)

/-- SET_URGENT. -/
def execSetUrgent (lk : Link) (tag slot enable kind : Byte) (s : State) : Host.Outcome State Fault Refusal :=
  s.act fun b => b.request lk 0xA2 tag [slot, enable, kind] (ownSetUrgent lk slot enable kind)

/-- SET_LINE_THRESHOLD. -/
def execSetLineThreshold (lk : Link) (tag threshold : Byte) (s : State) : Host.Outcome State Fault Refusal :=
  s.act fun b => b.request lk 0xA3 tag [threshold] (ownSetLineThreshold lk threshold)

/-- READ_NOTICE_STATE. -/
def execReadNoticeState (lk : Link) (tag : Byte) (s : State) : Host.Outcome State Fault Refusal :=
  s.act fun b => b.request lk 0xA4 tag [] (ownReadNoticeState lk)

end Machine
end Sys2Proof
end

