-- ==== Sys2Proof/Machine/Reads.lean ====
section
/-! DEFINITION. The read requests: what each returns; none changes any state. -/
namespace Sys2Proof

/-- READ SECTION (02 R25). -/
def ownReadSection (kByte : Byte) (b : Block) : Answer :=
  match b.sectionArg kByte with
  | none => .plain .badArgument b
  | some k =>
    .done
      (.sectionRec (b.sec k) (b.reading (.openLimit k)) (b.reading (.closedLimit k)) (b.reading (.beam k)) (b.reading (.head k))
        (b.reading (.paddle k)))
      b

/-- READ CHAMBER (01 R5, 05 R103). -/
def ownReadChamber (cByte : Byte) (b : Block) : Answer :=
  match b.chamberArg cByte with
  | none => .plain .badArgument b
  | some c =>
    let x := b.chamber c
    .done
      (.chamberRec x.state (b.depth c) x.lockages x.emptyLockages (b.inBand .lower) (b.inBand .upper)
        ((gatesOf c).map (fun k => (k, (b.sec k).sluice, (b.sec k).lastTicks, (b.sec k).transfer)))
        ((b.list c).map (fun v => (v, (b.vessel v).direction, (b.vessel v).length))) (b.list c).length (b.summedLength c)
        b.config.chambers[c])
      b

/-- The channel of a section by its place: 0 stroke, 1 stall, 2 transfer (04 R69). -/
def SectionTimers.channelAt (t : SectionTimers) (place : Nat) : Channel :=
  match place with
  | 0 => t.stroke
  | 1 => t.stall
  | _ => t.transfer

/-- READ CHANNEL (04 R81). -/
def ownReadChannel (cByte : Byte) (b : Block) : Answer :=
  if h : cByte.toNat < 15 then
    let k : Fin 5 := ⟨cByte.toNat / 3, by omega⟩
    .done (.channel cByte.toNat ((b.timer k).channelAt (cByte.toNat % 3)) (b.drive k)) b
  else if cByte.toNat = 15 then .done (.flasher b.flasher.channel b.flasher.on (b.lamp .lower) (b.lamp .upper) b.tick.number) b
  else .plain .badArgument b

/-- READ VESSEL (05 R103). -/
def ownReadVessel (vByte : Byte) (b : Block) : Answer :=
  match finArg 16 vByte with
  | none => .plain .badArgument b
  | some v => if (b.vessel v).state = .free then .done .freeSlot b else .done (.vessel (b.vessel v)) b

/-- What READ QUEUE gives of a vessel (05 R103). -/
def Block.queueRow (b : Block) (v : Fin 16) : Fin 16 × PassageState × Nat × RateStatus × Bool × Bool :=
  let x := b.vessel v
  (v, x.state, x.length, x.rateStatus, x.officeHold, x.rateHold)

/-- READ QUEUE (05 R103). -/
def ownReadQueue (sideByte : Byte) (b : Block) : Answer :=
  match sideArg sideByte with
  | none => .plain .badArgument b
  | some side => .done (.queue ((b.queue side).map b.queueRow) (b.bookedCount side.direction) (b.reservations side)) b

/-- READ SIGNAL (06 R116). -/
def ownReadSignal (sideByte : Byte) (b : Block) : Answer :=
  match sideArg sideByte with
  | none => .plain .badArgument b
  | some side =>
    .done
      (.signal (b.signal side) (b.lamp side) (b.reading (.redProving side)) (b.reading (.greenProving side)) b.flasher.on
        (if (b.signal side).mode = .auto then some (b.derive side).2 else none))
      b

/-- READ RATE CACHE (07 R136). -/
def ownReadRateCache (setByte : Byte) (b : Block) : Answer :=
  match finArg 4 setByte with
  | none => .plain .badArgument b
  | some i => .done (.rateCache b.tariff.cache[i] b.tariff.freeze) b

/-- READ RATING STATE: "the walk record when one is held, less its leaf contents" (07 R138). -/
def ownReadRatingState (b : Block) : Answer :=
  let t := b.tariff
  .done
    (.ratingState t.queue t.engine (t.walk.map (fun w => { w with leaf := none, next := 0 })) t.root t.windows t.freeze t.lastServed
      t.linkWaits)
    b

/-- READ METERS (08 R148). -/
def ownReadMeters (b : Block) : Answer := .done (.meters b.clock b.acct.meters) b

/-- READ WRITE-OFF (08 R154). -/
def ownReadWriteOff (b : Block) : Answer := .done (.writeOff b.acct.writeOff b.acct.charge) b

/-! ## READ JOURNAL (09 R162, 13 R205) -/

/-- A mark as a bit of a field. -/
def bitAt (place : Nat) (x : Bool) : Nat := if x then 2 ^ place else 0

/-- Bytes 4 to 43: the record (13 R205). -/
def AccountRecord.bytes (r : AccountRecord) : List Byte :=
  bytesOf32 r.registration ++ bytesOf16 r.operator ++
  [byteOf (r.cls * 16 + bitAt 3 (r.direction == .down) + r.cargo)] ++
  bytesOf16
    (BitVec.ofNat 16
      (r.length + bitAt 11 r.withdrawn + bitAt 12 r.exempt + bitAt 13 r.staleRate + bitAt 14 r.rateHold + bitAt 15 r.failedRate)) ++
  bytesOf32 r.booked ++ bytesOf32 (r.admitted.getD 0) ++ bytesOf32 (r.exited.getD 0) ++
  (bytesOf32 (BitVec.ofNat 32 (r.passageFee + bitAt 23 r.officeHold))).drop 1 ++ [byteOf r.lockageCount] ++
  bytesOf16 (BitVec.ofNat 16 r.dwellMinutes) ++ [0] ++ bytesOf32 (BitVec.ofNat 32 r.lockageTotal) ++
  bytesOf32 (BitVec.ofNat 32 r.dwellCharge) ++ bytesOf32 (BitVec.ofNat 32 r.total)

/-- Bytes 44 to 47: the journal summary (13 R205). -/
def Block.journalSummary (b : Block) : List Byte :=
  [byteOf b.acct.journal.length, byteOf b.config.threshold, byteOf b.acct.closing.length,
   match b.acct.closing with
   | v :: _ => byteOf v.val
   | [] => 0xFF]

/-- The oldest sequence number, or the next one when the journal is empty (13 R205). -/
def Block.oldestSequence (b : Block) : W32 :=
  match b.acct.journal with
  | r :: _ => r.sequence
  | [] => b.acct.nextSeq

/-- The 48 bytes of a DONE reply (13 R205). -/
def Block.journalPayload (b : Block) (r : Option AccountRecord) : List Byte :=
  bytesOf32 b.oldestSequence ++
  (match r with
   | some r => r.bytes
   | none => List.replicate 40 0) ++
  b.journalSummary

/-- READ JOURNAL (09 R162). -/
def ownReadJournal (seq : Option W32) (b : Block) : Answer :=
  match seq with
  | none => .done (.bytes (b.journalPayload b.acct.journal.head?)) b
  | some s =>
    match b.acct.journal.find? (fun r => r.sequence == s) with
    | some r => .done (.bytes (b.journalPayload (some r))) b
    | none => .plain .badSequence b

/-- The lease settings and state of a link as READ CONFIG returns them (10 R180). -/
def Block.leaseRow (b : Block) (lk : Link) : Link × Nat × LeaseAction × LeaseState :=
  let x := (b.link lk).lease
  (lk, x.period, x.action, x.state)

/-- READ CONFIG (10 R180; the index of GENERAL, log 14). -/
def ownReadConfig (part index : Byte) (b : Block) : Answer :=
  match part.toNat with
  | 0 =>
    .done (.configGeneral b.n b.config.flashHalf b.config.threshold (Link.all.map b.leaseRow) b.cond b.estopState) b
  | 1 =>
    if h : 1 ≤ index.toNat ∧ index.toNat ≤ 4 then
      .done (.configChamber (b.config.chambers[(⟨index.toNat - 1, by omega⟩ : Fin 4)])) b
    else .plain .badArgument b
  | 2 =>
    match finArg 5 index with
    | some k => .done (.configSection b.config.sections[k]) b
    | none => .plain .badArgument b
  | _ => .plain .badArgument b

namespace Machine

/-- READ_SECTION. -/
def execReadSection (lk : Link) (tag k : Byte) (s : State) : Host.Outcome State Fault Refusal :=
  s.act fun b => b.request lk 0x90 tag [k] (ownReadSection k)

/-- READ_CHAMBER. -/
def execReadChamber (lk : Link) (tag c : Byte) (s : State) : Host.Outcome State Fault Refusal :=
  s.act fun b => b.request lk 0x91 tag [c] (ownReadChamber c)

/-- READ_CHANNEL. -/
def execReadChannel (lk : Link) (tag c : Byte) (s : State) : Host.Outcome State Fault Refusal :=
  s.act fun b => b.request lk 0x92 tag [c] (ownReadChannel c)

/-- READ_VESSEL. -/
def execReadVessel (lk : Link) (tag v : Byte) (s : State) : Host.Outcome State Fault Refusal :=
  s.act fun b => b.request lk 0x93 tag [v] (ownReadVessel v)

/-- READ_QUEUE. -/
def execReadQueue (lk : Link) (tag side : Byte) (s : State) : Host.Outcome State Fault Refusal :=
  s.act fun b => b.request lk 0x94 tag [side] (ownReadQueue side)

/-- READ_SIGNAL. -/
def execReadSignal (lk : Link) (tag side : Byte) (s : State) : Host.Outcome State Fault Refusal :=
  s.act fun b => b.request lk 0x95 tag [side] (ownReadSignal side)

/-- READ_RATE_CACHE. -/
def execReadRateCache (lk : Link) (tag set : Byte) (s : State) : Host.Outcome State Fault Refusal :=
  s.act fun b => b.request lk 0x96 tag [set] (ownReadRateCache set)

/-- READ_RATING_STATE. -/
def execReadRatingState (lk : Link) (tag : Byte) (s : State) : Host.Outcome State Fault Refusal :=
  s.act fun b => b.request lk 0x97 tag [] ownReadRatingState

/-- READ_METERS. -/
def execReadMeters (lk : Link) (tag : Byte) (s : State) : Host.Outcome State Fault Refusal :=
  s.act fun b => b.request lk 0x98 tag [] ownReadMeters

/-- READ_WRITE_OFF. -/
def execReadWriteOff (lk : Link) (tag : Byte) (s : State) : Host.Outcome State Fault Refusal :=
  s.act fun b => b.request lk 0x99 tag [] ownReadWriteOff

/-- The sequence number a READ JOURNAL carries, if any (13 R203). -/
def sequenceBytes (seq : Option W32) : List Byte :=
  match seq with
  | some s => bytesOf32 s
  | none => []

/-- READ_JOURNAL. -/
def execReadJournal (lk : Link) (tag : Byte) (seq : Option W32) (s : State) : Host.Outcome State Fault Refusal :=
  s.act fun b => b.request lk 0x9A tag (sequenceBytes seq) (ownReadJournal seq)

/-- READ_CONFIG. -/
def execReadConfig (lk : Link) (tag part index : Byte) (s : State) : Host.Outcome State Fault Refusal :=
  s.act fun b => b.request lk 0x9B tag [part, index] (ownReadConfig part index)

end Machine
end Sys2Proof
end

