-- ==== Sys2Proof/Machine/Links.lean ====
section
/-! DEFINITION. The Link Interface (11, 13): the frames of the requests, the taking of a request, and the three kinds of
transaction. -/
namespace Sys2Proof

/-! ## From a frame to a request (13 R202, R203) -/

/-- "1 to 12 items of parameter, index, 2-byte value" (13 R203), as many as the bytes give. -/
def itemsOf (payload : List Byte) : Option (List ConfigItem) :=
  match payload with
  | [] => some []
  | p :: i :: v1 :: v0 :: rest => (itemsOf rest).map (fun items => { param := p, index := i, value := word16 v1 v0 } :: items)
  | _ => none

/-- "1 to 16 pairs of kind and level" (13 R203), as many as the bytes give. -/
def pairsOf (payload : List Byte) : Option (List (Byte × Byte)) :=
  match payload with
  | [] => some []
  | k :: l :: rest => (pairsOf rest).map (fun pairs => (k, l) :: pairs)
  | _ => none

/-- The items of a CONFIGURE, 4 to 48 bytes. -/
def configItems (payload : List Byte) : Option (List ConfigItem) :=
  if payload = [] ∨ 48 < payload.length then none else itemsOf payload

/-- The pairs of a SET NOTICE LEVEL, 2 to 32 bytes. -/
def levelPairs (payload : List Byte) : Option (List (Byte × Byte)) :=
  if payload = [] ∨ 32 < payload.length then none else pairsOf payload

/-- The claim requests of 13 R202 and R203, by code and payload. -/
def decodeClaim (lk : Link) (tag : Byte) (code : Nat) (payload : List Byte) : Option Instr :=
  match code, payload with
  | 0x10, [k] => some (.claim lk tag k)
  | 0x11, [k] => some (.cancelClaim lk tag k)
  | 0x12, [k] => some (.release lk tag k)
  | 0x13, [k] => some (.takeOver lk tag k)
  | _, _ => none

/-- The gate requests of 13 R202 and R203, by code and payload. -/
def decodeGate (lk : Link) (tag : Byte) (code : Nat) (payload : List Byte) : Option Instr :=
  match code, payload with
  | 0x20, [k] => some (.openGate lk tag k)
  | 0x21, [k] => some (.closeGate lk tag k)
  | 0x22, [k] => some (.stopGate lk tag k)
  | 0x23, [k] => some (.clearFault lk tag k)
  | 0x24, [k] => some (.setManual lk tag k)
  | 0x25, [k] => some (.setAuto lk tag k)
  | 0x26, [k, 0] => some (.driveGateOpen lk tag k)
  | 0x26, [k, 1] => some (.driveGateClose lk tag k)
  | 0x26, [k, 2] => some (.driveGateHalt lk tag k)
  | 0x27, [k, 0] => some (.driveSluiceCrack lk tag k)
  | 0x27, [k, 1] => some (.driveSluiceFull lk tag k)
  | 0x27, [k, 2] => some (.driveSluiceShut lk tag k)
  | _, _ => none

/-- The water requests of 13 R202 and R203, by code and payload. -/
def decodeWater (lk : Link) (tag : Byte) (code : Nat) (payload : List Byte) : Option Instr :=
  match code, payload with
  | 0x30, [k] => some (.transfer lk tag k)
  | 0x31, [k] => some (.abortTransfer lk tag k)
  | 0x32, [c] => some (.survey lk tag c)
  | 0x33, [] => some (.surveyAll lk tag)
  | _, _ => none

/-- The passage requests of 13 R202 and R203, by code and payload. -/
def decodePassage (lk : Link) (tag : Byte) (code : Nat) (payload : List Byte) : Option Instr :=
  match code, payload with
  | 0x40, [g3, g2, g1, g0, l1, l0, direction, o1, o0, cls, cargo] => some (.book lk tag (word32 g3 g2 g1 g0) (word16 l1 l0) direction (word16 o1 o0) cls cargo)
  | 0x41, [side] => some (.call lk tag side)
  | 0x42, [side] => some (.uncall lk tag side)
  | 0x43, [v] => some (.defer lk tag v)
  | 0x44, [v] => some (.advance lk tag v)
  | 0x45, [v] => some (.withdraw lk tag v)
  | 0x46, [v] => some (.hold lk tag v)
  | 0x47, [v] => some (.unhold lk tag v)
  | 0x48, [v] => some (.rerate lk tag v)
  | _, _ => none

/-- The signal requests of 13 R202 and R203, by code and payload. -/
def decodeSignal (lk : Link) (tag : Byte) (code : Nat) (payload : List Byte) : Option Instr :=
  match code, payload with
  | 0x50, [side, mode] => some (.setSignalMode lk tag side mode)
  | 0x51, [side, aspect] => some (.setAspect lk tag side aspect)
  | _, _ => none

/-- The service requests of 13 R202 and R203, by code and payload. -/
def decodeService (lk : Link) (tag : Byte) (code : Nat) (payload : List Byte) : Option Instr :=
  match code, payload with
  | 0x60, [] => some (.openService lk tag)
  | 0x61, [] => some (.endService lk tag)
  | 0x62, [] => some (.stopAll lk tag)
  | 0x63, [] => some (.resume lk tag)
  | 0x64, payload => (configItems payload).map (fun items => .configure lk tag items)
  | _, _ => none

/-- The tariff requests of 13 R202 and R203, by code and payload. -/
def decodeTariff (lk : Link) (tag : Byte) (code : Nat) (payload : List Byte) : Option Instr :=
  match code with
  | 0x70 =>
    match payload with
    | [i1, i0, e7, e6, e5, e4, e3, e2, e1, e0] => some (.writeTariff lk tag (word16 i1 i0) (word64 e7 e6 e5 e4 e3 e2 e1 e0))
    | _ => none
  | 0x71 => match payload with | [i1, i0] => some (.readTariff lk tag (word16 i1 i0)) | _ => none
  | 0x72 => match payload with | [r1, r0] => some (.setRoot lk tag (word16 r1 r0)) | _ => none
  | 0x73 => match payload with | [w, enable, b1, b0, m1, m0] => some (.setWindow lk tag w enable (word16 b1 b0) (word16 m1 m0)) | _ => none
  | 0x74 => match payload with | [f] => some (.setFreeze lk tag f) | _ => none
  | 0x75 => match payload with | [] => some (.flushAll lk tag) | _ => none
  | 0x76 => match payload with | [] => some (.flushNonstanding lk tag) | _ => none
  | 0x77 => match payload with | [group, cls, cargo] => some (.flushKey lk tag group cls cargo) | _ => none
  | _ => none

/-- The account requests of 13 R202 and R203, by code and payload. -/
def decodeAccount (lk : Link) (tag : Byte) (code : Nat) (payload : List Byte) : Option Instr :=
  match code with
  | 0x80 => match payload with | [s3, s2, s1, s0] => some (.setClock lk tag (word32 s3 s2 s1 s0)) | _ => none
  | 0x81 => match payload with | [w1, w0] => some (.setLockageCharge lk tag (word16 w1 w0)) | _ => none
  | 0x82 => match payload with | [] => some (.clearWriteOff lk tag) | _ => none
  | 0x83 => match payload with | [s3, s2, s1, s0] => some (.releaseJournal lk tag (word32 s3 s2 s1 s0)) | _ => none
  | _ => none

/-- The read requests of 13 R202 and R203, by code and payload. -/
def decodeRead (lk : Link) (tag : Byte) (code : Nat) (payload : List Byte) : Option Instr :=
  match code, payload with
  | 0x90, [k] => some (.readSection lk tag k)
  | 0x91, [c] => some (.readChamber lk tag c)
  | 0x92, [c] => some (.readChannel lk tag c)
  | 0x93, [v] => some (.readVessel lk tag v)
  | 0x94, [side] => some (.readQueue lk tag side)
  | 0x95, [side] => some (.readSignal lk tag side)
  | 0x96, [set] => some (.readRateCache lk tag set)
  | 0x97, [] => some (.readRatingState lk tag)
  | 0x98, [] => some (.readMeters lk tag)
  | 0x99, [] => some (.readWriteOff lk tag)
  | 0x9A, [] => some (.readJournal lk tag none)
  | 0x9A, [s3, s2, s1, s0] => some (.readJournal lk tag (some (word32 s3 s2 s1 s0)))
  | 0x9B, [part, index] => some (.readConfig lk tag part index)
  | _, _ => none

/-- The notice requests of 13 R202 and R203, by code and payload. -/
def decodeNotice (lk : Link) (tag : Byte) (code : Nat) (payload : List Byte) : Option Instr :=
  match code with
  | 0xA0 => match payload with | [] => some (.fetchNotice lk tag) | _ => none
  | 0xA1 => (levelPairs payload).map (fun pairs => .setNoticeLevel lk tag pairs)
  | 0xA2 => match payload with | [slot, enable, kind] => some (.setUrgent lk tag slot enable kind) | _ => none
  | 0xA3 => match payload with | [threshold] => some (.setLineThreshold lk tag threshold) | _ => none
  | 0xA4 => match payload with | [] => some (.readNoticeState lk tag) | _ => none
  | _ => none

/-- The request that a code and a payload spell; none for a length its rule does not accept, and for a drive byte beyond its list
(13 R203, 02 R42). -/
def decodeRequest (lk : Link) (tag code : Byte) (payload : List Byte) : Option Instr :=
  match code.toNat / 16 with
  | 0x1 => decodeClaim lk tag code.toNat payload
  | 0x2 => decodeGate lk tag code.toNat payload
  | 0x3 => decodeWater lk tag code.toNat payload
  | 0x4 => decodePassage lk tag code.toNat payload
  | 0x5 => decodeSignal lk tag code.toNat payload
  | 0x6 => decodeService lk tag code.toNat payload
  | 0x7 => decodeTariff lk tag code.toNat payload
  | 0x8 => decodeAccount lk tag code.toNat payload
  | 0x9 => decodeRead lk tag code.toNat payload
  | 0xA => decodeNotice lk tag code.toNat payload
  | _ => none

/-- Whether a code names a request: the ranges of 13 R202. -/
def codeKnown (code : Byte) : Bool :=
  let c := code.toNat
  (0x10 ≤ c && c ≤ 0x13) || (0x20 ≤ c && c ≤ 0x27) || (0x30 ≤ c && c ≤ 0x33) || (0x40 ≤ c && c ≤ 0x48) || (0x50 ≤ c && c ≤ 0x51) ||
  (0x60 ≤ c && c ≤ 0x64) || (0x70 ≤ c && c ≤ 0x77) || (0x80 ≤ c && c ≤ 0x83) || (0x90 ≤ c && c ≤ 0x9B) || (0xA0 ≤ c && c ≤ 0xA4)

/-- Link, tag, code and payload of a request row; none for the rows that are no request. -/
def Instr.frame (i : Instr) : Option (Link × Byte × Byte × List Byte) :=
  match i with
  | .claim lk tag k => some (lk, tag, 0x10, [k])
  | .cancelClaim lk tag k => some (lk, tag, 0x11, [k])
  | .release lk tag k => some (lk, tag, 0x12, [k])
  | .takeOver lk tag k => some (lk, tag, 0x13, [k])
  | .openGate lk tag k => some (lk, tag, 0x20, [k])
  | .closeGate lk tag k => some (lk, tag, 0x21, [k])
  | .stopGate lk tag k => some (lk, tag, 0x22, [k])
  | .clearFault lk tag k => some (lk, tag, 0x23, [k])
  | .setManual lk tag k => some (lk, tag, 0x24, [k])
  | .setAuto lk tag k => some (lk, tag, 0x25, [k])
  | .driveGateOpen lk tag k => some (lk, tag, 0x26, [k, 0])
  | .driveGateClose lk tag k => some (lk, tag, 0x26, [k, 1])
  | .driveGateHalt lk tag k => some (lk, tag, 0x26, [k, 2])
  | .driveSluiceCrack lk tag k => some (lk, tag, 0x27, [k, 0])
  | .driveSluiceFull lk tag k => some (lk, tag, 0x27, [k, 1])
  | .driveSluiceShut lk tag k => some (lk, tag, 0x27, [k, 2])
  | .transfer lk tag k => some (lk, tag, 0x30, [k])
  | .abortTransfer lk tag k => some (lk, tag, 0x31, [k])
  | .survey lk tag c => some (lk, tag, 0x32, [c])
  | .surveyAll lk tag => some (lk, tag, 0x33, [])
  | .book lk tag registration length direction operator cls cargo => some (lk, tag, 0x40, bytesOf32 registration ++ bytesOf16 length ++ [direction] ++ bytesOf16 operator ++ [cls, cargo])
  | .call lk tag side => some (lk, tag, 0x41, [side])
  | .uncall lk tag side => some (lk, tag, 0x42, [side])
  | .defer lk tag v => some (lk, tag, 0x43, [v])
  | .advance lk tag v => some (lk, tag, 0x44, [v])
  | .withdraw lk tag v => some (lk, tag, 0x45, [v])
  | .hold lk tag v => some (lk, tag, 0x46, [v])
  | .unhold lk tag v => some (lk, tag, 0x47, [v])
  | .rerate lk tag v => some (lk, tag, 0x48, [v])
  | .setSignalMode lk tag side mode => some (lk, tag, 0x50, [side, mode])
  | .setAspect lk tag side aspect => some (lk, tag, 0x51, [side, aspect])
  | .openService lk tag => some (lk, tag, 0x60, [])
  | .endService lk tag => some (lk, tag, 0x61, [])
  | .stopAll lk tag => some (lk, tag, 0x62, [])
  | .resume lk tag => some (lk, tag, 0x63, [])
  | .configure lk tag items => some (lk, tag, 0x64, items.flatMap Machine.itemBytes)
  | .writeTariff lk tag i entry => some (lk, tag, 0x70, bytesOf16 i ++ bytesOf64 entry)
  | .readTariff lk tag i => some (lk, tag, 0x71, bytesOf16 i)
  | .setRoot lk tag r => some (lk, tag, 0x72, bytesOf16 r)
  | .setWindow lk tag w enable base mask => some (lk, tag, 0x73, [w, enable] ++ bytesOf16 base ++ bytesOf16 mask)
  | .setFreeze lk tag f => some (lk, tag, 0x74, [f])
  | .flushAll lk tag => some (lk, tag, 0x75, [])
  | .flushNonstanding lk tag => some (lk, tag, 0x76, [])
  | .flushKey lk tag group cls cargo => some (lk, tag, 0x77, [group, cls, cargo])
  | .setClock lk tag seconds => some (lk, tag, 0x80, bytesOf32 seconds)
  | .setLockageCharge lk tag w => some (lk, tag, 0x81, bytesOf16 w)
  | .clearWriteOff lk tag => some (lk, tag, 0x82, [])
  | .releaseJournal lk tag seq => some (lk, tag, 0x83, bytesOf32 seq)
  | .readSection lk tag k => some (lk, tag, 0x90, [k])
  | .readChamber lk tag c => some (lk, tag, 0x91, [c])
  | .readChannel lk tag c => some (lk, tag, 0x92, [c])
  | .readVessel lk tag v => some (lk, tag, 0x93, [v])
  | .readQueue lk tag side => some (lk, tag, 0x94, [side])
  | .readSignal lk tag side => some (lk, tag, 0x95, [side])
  | .readRateCache lk tag set => some (lk, tag, 0x96, [set])
  | .readRatingState lk tag => some (lk, tag, 0x97, [])
  | .readMeters lk tag => some (lk, tag, 0x98, [])
  | .readWriteOff lk tag => some (lk, tag, 0x99, [])
  | .readJournal lk tag seq => some (lk, tag, 0x9A, Machine.sequenceBytes seq)
  | .readConfig lk tag part index => some (lk, tag, 0x9B, [part, index])
  | .fetchNotice lk tag => some (lk, tag, 0xA0, [])
  | .setNoticeLevel lk tag pairs => some (lk, tag, 0xA1, pairs.flatMap (fun p => [p.1, p.2]))
  | .setUrgent lk tag slot enable kind => some (lk, tag, 0xA2, [slot, enable, kind])
  | .setLineThreshold lk tag threshold => some (lk, tag, 0xA3, [threshold])
  | .readNoticeState lk tag => some (lk, tag, 0xA4, [])
  | _ => none

/-- The owner's part of a request row. -/
def Instr.own (i : Instr) : Block → Answer :=
  match i with
  | .claim lk _ k => ownClaim lk k
  | .cancelClaim lk _ k => ownCancelClaim lk k
  | .release lk _ k => ownRelease lk k
  | .takeOver lk _ k => ownTakeOver lk k
  | .openGate lk _ k => ownOpenGate lk k
  | .closeGate lk _ k => ownCloseGate lk k
  | .stopGate lk _ k => ownStopGate lk k
  | .clearFault lk _ k => ownClearFault lk k
  | .setManual lk _ k => ownSetManual lk k
  | .setAuto lk _ k => ownSetAuto lk k
  | .driveGateOpen lk _ k => ownDriveGateOpen lk k
  | .driveGateClose lk _ k => ownDriveGateClose lk k
  | .driveGateHalt lk _ k => ownDriveGateHalt lk k
  | .driveSluiceCrack lk _ k => ownDriveSluiceCrack lk k
  | .driveSluiceFull lk _ k => ownDriveSluiceFull lk k
  | .driveSluiceShut lk _ k => ownDriveSluiceShut lk k
  | .transfer lk _ k => ownTransfer lk k
  | .abortTransfer lk _ k => ownAbortTransfer lk k
  | .survey _ _ c => ownSurvey c
  | .surveyAll _ _ => ownSurveyAll
  | .book lk _ registration length direction operator cls cargo => ownBook lk registration length direction operator cls cargo
  | .call lk _ side => ownCall lk side
  | .uncall lk _ side => ownUncall lk side
  | .defer _ _ v => ownDefer v
  | .advance lk _ v => ownAdvance lk v
  | .withdraw _ _ v => ownWithdraw v
  | .hold _ _ v => ownHold v
  | .unhold _ _ v => ownUnhold v
  | .rerate _ _ v => ownRerate v
  | .setSignalMode lk _ side mode => ownSetSignalMode lk side mode
  | .setAspect lk _ side aspect => ownSetAspect lk side aspect
  | .openService lk _ => ownOpenService lk
  | .endService lk _ => ownEndService lk
  | .stopAll lk _ => ownStopAll lk
  | .resume lk _ => ownResume lk
  | .configure _ _ items => ownConfigure items
  | .writeTariff _ _ i entry => ownWriteTariff i entry
  | .readTariff _ _ i => ownReadTariff i
  | .setRoot _ _ r => ownSetRoot r
  | .setWindow _ _ w enable base mask => ownSetWindow w enable base mask
  | .setFreeze _ _ f => ownSetFreeze f
  | .flushAll _ _ => ownFlushAll
  | .flushNonstanding _ _ => ownFlushNonstanding
  | .flushKey _ _ group cls cargo => ownFlushKey group cls cargo
  | .setClock _ _ seconds => ownSetClock seconds
  | .setLockageCharge _ _ w => ownSetLockageCharge w
  | .clearWriteOff _ _ => ownClearWriteOff
  | .releaseJournal _ _ seq => ownReleaseJournal seq
  | .readSection _ _ k => ownReadSection k
  | .readChamber _ _ c => ownReadChamber c
  | .readChannel _ _ c => ownReadChannel c
  | .readVessel _ _ v => ownReadVessel v
  | .readQueue _ _ side => ownReadQueue side
  | .readSignal _ _ side => ownReadSignal side
  | .readRateCache _ _ set => ownReadRateCache set
  | .readRatingState _ _ => ownReadRatingState
  | .readMeters _ _ => ownReadMeters
  | .readWriteOff _ _ => ownReadWriteOff
  | .readJournal _ _ seq => ownReadJournal seq
  | .readConfig _ _ part index => ownReadConfig part index
  | .fetchNotice lk _ => ownFetchNotice lk
  | .setNoticeLevel lk _ pairs => ownSetNoticeLevel lk pairs
  | .setUrgent lk _ slot enable kind => ownSetUrgent lk slot enable kind
  | .setLineThreshold lk _ threshold => ownSetLineThreshold lk threshold
  | .readNoticeState lk _ => ownReadNoticeState lk
  | _ => Answer.plain .unknownRequest

/-! ## Taking a request (11 R188) -/

/-- The judgement of a good frame by the Link Interface, then by its owner. -/
def judgeRequest (lk : Link) (tag code : Byte) (payload : List Byte) (b : Block) : Answer :=
  if !codeKnown code then .plain .unknownRequest b
  else if !permitted code lk then .plain .notPermitted b
  else
    match decodeRequest lk tag code payload with
    | none => .plain .badArgument b
    | some i => i.own b

/-- Whether the head request of a link can be taken (11 R188). -/
def Block.canTake (b : Block) (lk : Link) : Bool :=
  !b.resetHeld && !(b.link lk).inHand && decide ((b.link lk).replies.length < Config.replyDepth)

/-- The head of a link's request queue is taken (11 R188). -/
def Block.takeRequest (b : Block) (lk : Link) : Block :=
  if b.canTake lk then
    match (b.link lk).requests with
    | .good code tag payload :: _ => b.serve lk code tag (judgeRequest lk tag code payload)
    | .bad code tag :: _ => b.serve lk code tag (Answer.plain .badFrame)
    | [] => b
  else b

/-! ## Transactions (11 R184 to R189) -/

/-- Whether a frame is good (11 R186). -/
def goodFrame (bytes : List Byte) : Bool :=
  match bytes with
  | _ :: _ :: len :: _ => decide (len.toNat ≤ Config.maxPayload) && decide (bytes.length = len.toNat + 4) && crc8 bytes == 0
  | _ => false

/-- The request entry of a good frame. -/
def goodEntry (bytes : List Byte) : RequestEntry :=
  match bytes with
  | code :: tag :: len :: rest => .good code tag (rest.take len.toNat)
  | _ => .bad 0 0

/-- The bad-frame entry: "the first and second bytes received as request code and tag, or 0 for any byte not received" (11 R186). -/
def badEntry (bytes : List Byte) : RequestEntry := .bad (bytes.getD 0 0) (bytes.getD 1 0)

/-- A good frame reloads the lease, and recovers a LAPSED link (03 R56, R61). -/
def Lease.reload (x : Lease) : Lease :=
  { x with counter := x.period, state := if x.state = .lapsed then (if x.period = 0 then .off else .running) else x.state }

/-- The transaction byte has shifted out whole: the status byte as it stood, then `rest`; DROPPED is cleared (11 R184, R185). -/
def LinkRec.shifted (r : LinkRec) (rest : List Byte) : LinkRec := { r with out := r.statusByte :: rest, dropped := false }

/-- A frame at the tail of the request queue, or dropped when it holds three entries (11 R186). -/
def LinkRec.append (r : LinkRec) (e : RequestEntry) : LinkRec :=
  if r.requests.length < Config.requestDepth then { r with requests := r.requests ++ [e] } else { r with dropped := true }

/-- A link record at the end of a SEND that carries a frame (11 R186). -/
def LinkRec.sent (r : LinkRec) (bytes : List Byte) : LinkRec :=
  if goodFrame bytes then { r with lease := r.lease.reload }.append (goodEntry bytes) else r.append (badEntry bytes)

/-- SEND (11 R186); without a byte after the transaction byte it carries no frame (log 30). -/
def LinkRec.send (r : LinkRec) (bytes : List Byte) : LinkRec :=
  let r1 := r.shifted (List.replicate bytes.length 0)
  if bytes = [] then r1 else r1.sent bytes

/-- The payload bytes of a reply. Those of the layouts the manual does not fix are free (log 6); no payload exceeds 48 bytes (R189). -/
def Payload.toBytes (p : Payload) : List Byte :=
  match p with
  | .none => []
  | .bytes bs => bs
  | p => (Config.replyLayout p).take Config.maxPayload

/-- The bytes of a reply frame (11 R187, R189; 13 R201). -/
def ReplyFrame.bytes (f : ReplyFrame) : List Byte :=
  let payload := f.payload.toBytes
  let body := [byteOf payload.length, f.code, f.tag, byteOf f.outcome.number] ++ payload
  body ++ [crc8 body]

/-- COLLECT (11 R189): the head reply or the no-reply marker, then fill bytes; the reply goes when its check byte is shifted out whole. -/
def LinkRec.collect (r : LinkRec) (clocked : Nat) : LinkRec :=
  match r.replies with
  | [] => r.shifted ((Config.noReplyMarker :: List.replicate clocked 0).take clocked)
  | f :: rest =>
    let r1 := r.shifted ((f.bytes ++ List.replicate clocked 0).take clocked)
    if f.bytes.length ≤ clocked then { r1 with replies := rest } else r1

/-- One transaction: the transaction byte, absent when it was not shifted in whole, and the bytes after it. SEND and COLLECT are 5Eh and
C3h; after any other byte the bytes are ignored and fill bytes go out; without a whole one nothing is done (11 R184, 13 R200, log 29). -/
def LinkRec.transaction (r : LinkRec) (byte : Option Byte) (rest : List Byte) : LinkRec :=
  match byte with
  | none => { r with out := [] }
  | some x =>
    if x = Config.sendByte then r.send rest
    else if x = Config.collectByte then r.collect rest.length
    else r.shifted (List.replicate rest.length 0)

/-- A transaction on a link. While the RESET pin is held, none is answered and the data output is not driven (10 R182). -/
def Block.transact (b : Block) (lk : Link) (byte : Option Byte) (rest : List Byte) : Block :=
  b.setLink lk (if b.resetHeld then { b.link lk with out := [] } else (b.link lk).transaction byte rest)

namespace Machine

/-- SEND: the transaction byte 5Eh (13 R200), then the bytes of the frame. -/
def execSend (lk : Link) (bytes : List Byte) (s : State) : Host.Outcome State Fault Refusal :=
  s.act fun b => b.transact lk (some Config.sendByte) bytes

/-- COLLECT: the transaction byte C3h (13 R200), then `clocked` bytes, which are ignored whatever they are (11 R184), here 0. -/
def execCollect (lk : Link) (clocked : Nat) (s : State) : Host.Outcome State Fault Refusal :=
  s.act fun b => b.transact lk (some Config.collectByte) (List.replicate clocked 0)

/-- IGNORED_TRANSACTION: any transaction byte, and the bytes after it; the byte says what the transaction is (11 R184). -/
def execIgnoredTransaction (lk : Link) (byte : Option Byte) (rest : List Byte) (s : State) : Host.Outcome State Fault Refusal :=
  s.act fun b => b.transact lk byte rest

/-- REQUEST_TAKEN. -/
def execRequestTaken (lk : Link) (s : State) : Host.Outcome State Fault Refusal := s.act fun b => b.takeRequest lk

end Machine
end Sys2Proof
end

