-- ==== Sys2Proof/Machine/Ticks.lean ====
section
/-! DEFINITION. Arrivals of the field inputs and the motion tick (04). -/
namespace Sys2Proof

/-! ## Arrivals (04 R65 to R67) -/

/-- Whether N includes the section or chamber of an input; the others' "arrivals are not offered to any block" (04 R66). -/
def Block.offered (b : Block) (i : Input) : Bool :=
  match i with
  | .openLimit k | .closedLimit k | .beam k | .head k | .paddle k => decide (k ≤ b.n)
  | .lowFloat c | .highFloat c => decide (c.val < b.n.val)
  | _ => true

/-- What an arrival at `x` does in the blocks it is offered to; `before` is the reading it replaces (04 R66). A float changes the depth
reading alone (01 R6). -/
def Block.arrivalEffect (b : Block) (i : Input) (before : Option Bool) (x : Bool) : Block :=
  match i with
  | .openLimit k => b.limitEffect k .openLimit before x
  | .closedLimit k => b.limitEffect k .closedLimit before x
  | .beam k => b.beamEffect k x
  | .head k => b.headEffect k x
  | .paddle k => b.paddleArrival k x
  | .lowFloat _ | .highFloat _ => b
  | .band side => (b.bandEffect side before x).refreshSignals
  | .redProving side => (b.provingArrival side .red x).refreshSignals
  | .greenProving side => b.provingArrival side .green x
  | .estop => b.estopEffect x

/-- The arrival that an input's qualifier has made is taken: the qualified state takes the value, and it is offered (04 R65, R66,
log 1). -/
def Block.arrival (b : Block) (i : Input) : Block :=
  let q := b.qual i
  match q.raised with
  | some x =>
    let b1 := b.setQual i { q with state := some x, raised := none }
    if b.offered i then b1.arrivalEffect i q.state x else b1
  | none => b

/-- The input of a float switch. -/
def FloatSwitch.input (w : FloatSwitch) (c : Fin 4) : Input :=
  match w with
  | .low => .lowFloat c
  | .high => .highFloat c

/-! ## The motion tick (04 R63) -/

/-- The events of one section's channels. -/
def Block.channelEvents (b : Block) (k : Fin 5) : Block :=
  ((((b.zeroEvent k).stallEvent k).compareEvent k).limitExpiry k).shutExpiry k

/-- Every event that an earlier tick or pulse made and that still stands, taken in a fixed order (log 2). -/
def Block.takeOutstanding (b : Block) : Block :=
  let b1 := sectionsAll.foldl Block.channelEvents (Input.all.foldl Block.arrival b)
  let b2 := b1.phaseChange
  let b3 := ((b2.settleExpiry .lower .red).settleExpiry .lower .green)
  let b4 := ((b3.settleExpiry .upper .red).settleExpiry .upper .green).clockAdvance
  ((b4.leaseExpiry .u).leaseExpiry .l).leaseExpiry .t

/-- The tick number stepped; at a tick numbered 10 a second is handed on (04 R63). -/
def TickRec.advance (x : TickRec) : TickRec :=
  let number := if x.number = 10 then 1 else x.number + 1
  { number := number, secondDue := x.secondDue || number == 10 }

/-- "At each motion tick it samples its input" (04 R65): all forty. -/
def Block.sampleAll (b : Block) (pins : Vector Bool 40) : Block :=
  { b with quals := Vector.ofFn (fun i : Fin 40 => Qualifier.sample pins[i] b.quals[i]) }

/-- The stall and transfer channels of a section count (04 R72, R73, R75). -/
def SectionTimers.tick (t : SectionTimers) : SectionTimers := { t with stall := t.stall.stallTick, transfer := t.transfer.transferTick }

/-- Channel 15 counts (04 R76). -/
def Flasher.tick (f : Flasher) : Flasher := { f with channel := { f.channel with count := f.channel.count - 1 } }

/-- The count steps of a tick: channels, flasher and settle counts (04 R63, 06 R112). -/
def Block.countSteps (b : Block) : Block :=
  { b with
    timers := b.timers.map SectionTimers.tick, flasher := b.flasher.tick,
    signals := { lower := b.signals.lower.settleStep, upper := b.signals.upper.settleStep } }

/-- One motion tick. The events that stand are taken first; then the tick number steps; then, unless the RESET pin is held (10 R182),
the qualifiers sample, the arrivals of `first` are taken, and the channels count (04 R63, R74, log 2). -/
def Block.motionTick (b : Block) (pins : Vector Bool 40) (first : List Input) : Block :=
  let b1 := b.takeOutstanding
  let b2 := b1.setTick b1.tick.advance
  if b2.resetHeld then b2 else (first.foldl Block.arrival (b2.sampleAll pins)).countSteps

namespace Machine

/-- MOTION_TICK. -/
def execMotionTick (pins : Vector Bool 40) (first : List Input) (s : State) : Host.Outcome State Fault Refusal :=
  s.act fun b => b.motionTick pins first

/-- LIMIT_ARRIVAL. -/
def execLimitArrival (k : Fin 5) (which : LimitSwitch) (s : State) : Host.Outcome State Fault Refusal :=
  s.act fun b => b.arrival (which.input k)

/-- BEAM_ARRIVAL. -/
def execBeamArrival (k : Fin 5) (s : State) : Host.Outcome State Fault Refusal := s.act fun b => b.arrival (.beam k)

/-- HEAD_SENSOR_ARRIVAL. -/
def execHeadSensorArrival (k : Fin 5) (s : State) : Host.Outcome State Fault Refusal := s.act fun b => b.arrival (.head k)

/-- PADDLE_SHUT_ARRIVAL. -/
def execPaddleShutArrival (k : Fin 5) (s : State) : Host.Outcome State Fault Refusal := s.act fun b => b.arrival (.paddle k)

/-- FLOAT_ARRIVAL. -/
def execFloatArrival (c : Fin 4) (which : FloatSwitch) (s : State) : Host.Outcome State Fault Refusal :=
  s.act fun b => b.arrival (which.input c)

/-- BAND_ARRIVAL. -/
def execBandArrival (side : Side) (s : State) : Host.Outcome State Fault Refusal := s.act fun b => b.arrival (.band side)

/-- LAMP_PROVING_ARRIVAL. -/
def execLampProvingArrival (side : Side) (lamp : Lamp) (s : State) : Host.Outcome State Fault Refusal :=
  s.act fun b => b.arrival (lamp.proving side)

/-- ESTOP_ARRIVAL. -/
def execEstopArrival (s : State) : Host.Outcome State Fault Refusal := s.act fun b => b.arrival .estop

end Machine
end Sys2Proof
end

