-- ==== Sys2Proof/Machine/Dispatch.lean ====
section
/-! DEFINITION. exec: one arm per command, each the direct call of its meaning. -/
namespace Sys2Proof.Machine

def exec (i : Instr) (s : State) : Host.Outcome State Fault Refusal :=
  match i with
  | .powerOnReset => Sys2Proof.Machine.execPowerOnReset s
  | .warmReset => Sys2Proof.Machine.execWarmReset s
  | .resetPinRelease => Sys2Proof.Machine.execResetPinRelease s
  | .send lk bytes => Sys2Proof.Machine.execSend lk bytes s
  | .collect lk clocked => Sys2Proof.Machine.execCollect lk clocked s
  | .ignoredTransaction lk byte rest => Sys2Proof.Machine.execIgnoredTransaction lk byte rest s
  | .requestTaken lk => Sys2Proof.Machine.execRequestTaken lk s
  | .claim lk tag k => Sys2Proof.Machine.execClaim lk tag k s
  | .cancelClaim lk tag k => Sys2Proof.Machine.execCancelClaim lk tag k s
  | .release lk tag k => Sys2Proof.Machine.execRelease lk tag k s
  | .takeOver lk tag k => Sys2Proof.Machine.execTakeOver lk tag k s
  | .openGate lk tag k => Sys2Proof.Machine.execOpenGate lk tag k s
  | .closeGate lk tag k => Sys2Proof.Machine.execCloseGate lk tag k s
  | .stopGate lk tag k => Sys2Proof.Machine.execStopGate lk tag k s
  | .clearFault lk tag k => Sys2Proof.Machine.execClearFault lk tag k s
  | .setManual lk tag k => Sys2Proof.Machine.execSetManual lk tag k s
  | .setAuto lk tag k => Sys2Proof.Machine.execSetAuto lk tag k s
  | .driveGateOpen lk tag k => Sys2Proof.Machine.execDriveGateOpen lk tag k s
  | .driveGateClose lk tag k => Sys2Proof.Machine.execDriveGateClose lk tag k s
  | .driveGateHalt lk tag k => Sys2Proof.Machine.execDriveGateHalt lk tag k s
  | .driveSluiceCrack lk tag k => Sys2Proof.Machine.execDriveSluiceCrack lk tag k s
  | .driveSluiceFull lk tag k => Sys2Proof.Machine.execDriveSluiceFull lk tag k s
  | .driveSluiceShut lk tag k => Sys2Proof.Machine.execDriveSluiceShut lk tag k s
  | .transfer lk tag k => Sys2Proof.Machine.execTransfer lk tag k s
  | .abortTransfer lk tag k => Sys2Proof.Machine.execAbortTransfer lk tag k s
  | .survey lk tag c => Sys2Proof.Machine.execSurvey lk tag c s
  | .surveyAll lk tag => Sys2Proof.Machine.execSurveyAll lk tag s
  | .book lk tag registration length direction operator cls cargo => Sys2Proof.Machine.execBook lk tag registration length direction operator cls cargo s
  | .call lk tag side => Sys2Proof.Machine.execCall lk tag side s
  | .uncall lk tag side => Sys2Proof.Machine.execUncall lk tag side s
  | .defer lk tag v => Sys2Proof.Machine.execDefer lk tag v s
  | .advance lk tag v => Sys2Proof.Machine.execAdvance lk tag v s
  | .withdraw lk tag v => Sys2Proof.Machine.execWithdraw lk tag v s
  | .hold lk tag v => Sys2Proof.Machine.execHold lk tag v s
  | .unhold lk tag v => Sys2Proof.Machine.execUnhold lk tag v s
  | .rerate lk tag v => Sys2Proof.Machine.execRerate lk tag v s
  | .setSignalMode lk tag side mode => Sys2Proof.Machine.execSetSignalMode lk tag side mode s
  | .setAspect lk tag side aspect => Sys2Proof.Machine.execSetAspect lk tag side aspect s
  | .openService lk tag => Sys2Proof.Machine.execOpenService lk tag s
  | .endService lk tag => Sys2Proof.Machine.execEndService lk tag s
  | .stopAll lk tag => Sys2Proof.Machine.execStopAll lk tag s
  | .resume lk tag => Sys2Proof.Machine.execResume lk tag s
  | .configure lk tag items => Sys2Proof.Machine.execConfigure lk tag items s
  | .writeTariff lk tag idx entry => Sys2Proof.Machine.execWriteTariff lk tag idx entry s
  | .readTariff lk tag idx => Sys2Proof.Machine.execReadTariff lk tag idx s
  | .setRoot lk tag r => Sys2Proof.Machine.execSetRoot lk tag r s
  | .setWindow lk tag w enable base mask => Sys2Proof.Machine.execSetWindow lk tag w enable base mask s
  | .setFreeze lk tag f => Sys2Proof.Machine.execSetFreeze lk tag f s
  | .flushAll lk tag => Sys2Proof.Machine.execFlushAll lk tag s
  | .flushNonstanding lk tag => Sys2Proof.Machine.execFlushNonstanding lk tag s
  | .flushKey lk tag group cls cargo => Sys2Proof.Machine.execFlushKey lk tag group cls cargo s
  | .setClock lk tag seconds => Sys2Proof.Machine.execSetClock lk tag seconds s
  | .setLockageCharge lk tag w => Sys2Proof.Machine.execSetLockageCharge lk tag w s
  | .clearWriteOff lk tag => Sys2Proof.Machine.execClearWriteOff lk tag s
  | .releaseJournal lk tag seq => Sys2Proof.Machine.execReleaseJournal lk tag seq s
  | .readSection lk tag k => Sys2Proof.Machine.execReadSection lk tag k s
  | .readChamber lk tag c => Sys2Proof.Machine.execReadChamber lk tag c s
  | .readChannel lk tag c => Sys2Proof.Machine.execReadChannel lk tag c s
  | .readVessel lk tag v => Sys2Proof.Machine.execReadVessel lk tag v s
  | .readQueue lk tag side => Sys2Proof.Machine.execReadQueue lk tag side s
  | .readSignal lk tag side => Sys2Proof.Machine.execReadSignal lk tag side s
  | .readRateCache lk tag set => Sys2Proof.Machine.execReadRateCache lk tag set s
  | .readRatingState lk tag => Sys2Proof.Machine.execReadRatingState lk tag s
  | .readMeters lk tag => Sys2Proof.Machine.execReadMeters lk tag s
  | .readWriteOff lk tag => Sys2Proof.Machine.execReadWriteOff lk tag s
  | .readJournal lk tag seq => Sys2Proof.Machine.execReadJournal lk tag seq s
  | .readConfig lk tag part index => Sys2Proof.Machine.execReadConfig lk tag part index s
  | .fetchNotice lk tag => Sys2Proof.Machine.execFetchNotice lk tag s
  | .setNoticeLevel lk tag pairs => Sys2Proof.Machine.execSetNoticeLevel lk tag pairs s
  | .setUrgent lk tag slot enable kind => Sys2Proof.Machine.execSetUrgent lk tag slot enable kind s
  | .setLineThreshold lk tag threshold => Sys2Proof.Machine.execSetLineThreshold lk tag threshold s
  | .readNoticeState lk tag => Sys2Proof.Machine.execReadNoticeState lk tag s
  | .motionTick pins first => Sys2Proof.Machine.execMotionTick pins first s
  | .flightClockAdvance => Sys2Proof.Machine.execFlightClockAdvance s
  | .leaseExpiry lk => Sys2Proof.Machine.execLeaseExpiry lk s
  | .limitArrival k which => Sys2Proof.Machine.execLimitArrival k which s
  | .beamArrival k => Sys2Proof.Machine.execBeamArrival k s
  | .headSensorArrival k => Sys2Proof.Machine.execHeadSensorArrival k s
  | .paddleShutArrival k => Sys2Proof.Machine.execPaddleShutArrival k s
  | .floatArrival c which => Sys2Proof.Machine.execFloatArrival c which s
  | .bandArrival side => Sys2Proof.Machine.execBandArrival side s
  | .lampProvingArrival side lamp => Sys2Proof.Machine.execLampProvingArrival side lamp s
  | .estopArrival => Sys2Proof.Machine.execEstopArrival s
  | .encoderPulse k => Sys2Proof.Machine.execEncoderPulse k s
  | .zero k => Sys2Proof.Machine.execZero k s
  | .stallExpiry k => Sys2Proof.Machine.execStallExpiry k s
  | .compare k => Sys2Proof.Machine.execCompare k s
  | .expiryLimit k => Sys2Proof.Machine.execExpiryLimit k s
  | .expiryShut k => Sys2Proof.Machine.execExpiryShut k s
  | .flasherPhaseChange => Sys2Proof.Machine.execFlasherPhaseChange s
  | .lampSettleExpiry side lamp => Sys2Proof.Machine.execLampSettleExpiry side lamp s
  | .ratingHeadTaken => Sys2Proof.Machine.execRatingHeadTaken s
  | .walkAccessComplete => Sys2Proof.Machine.execWalkAccessComplete s
  | .tariffWriteComplete => Sys2Proof.Machine.execTariffWriteComplete s
  | .tariffReadComplete => Sys2Proof.Machine.execTariffReadComplete s

end Sys2Proof.Machine
end

