-- ==== Sys2Proof/Safety.lean ====
section
/-! DEFINITION. What counts as a safe state, and the few words the statements use. -/
namespace Sys2Proof

/-! ## Safe states -/

/-- 03 R47: "A section has at most one holder and at most one waiter, the waiter is never the holder, and neither is ever Link T";
"A section with holder NONE therefore has waiter NONE"; "The orphan mark is set only while the holder is NONE". -/
def Section.claimsLegal (x : Section) : Bool :=
  x.holder != some .t && x.waiter != some .t && (x.waiter == none || (x.holder != none && x.waiter != x.holder)) &&
  (!x.orphan || x.holder == none)

/-- R47 at every section. -/
def Block.claimsLegal (b : Block) : Bool := sectionsAll.all fun k => (b.sec k).claimsLegal

/-- 04 R78: "The two gate latches of a section are therefore never applied as set together". -/
def Block.latchesLegal (b : Block) : Bool := sectionsAll.all fun k => !((b.drive k).gateOpen && (b.drive k).gateClose)

/-- The tariff store in its canonical form, every index inside its 2048 entries (07 R118), and one access at a time (R122). -/
def Tariff.legal (t : Tariff) : Bool :=
  storeWf t.store && t.store.all (fun e => decide (e.1 < Config.storeSize)) && decide (t.root < Config.storeSize) &&
  t.walk.all (fun w => decide (w.index < Config.storeSize) && decide (w.next < Config.storeSize)) &&
  t.access.all (fun a => decide (a.index < Config.storeSize)) &&
  !(t.walk.any (fun w => w.inAccess) && t.access.any (fun a => a.inAccess))

/-- Consecutive sequence numbers, oldest first, up to the next one to be given (09 R161). -/
def consecutive (next : W32) (journal : List AccountRecord) : Bool :=
  match journal with
  | [] => true
  | [r] => r.sequence + 1 == next
  | r :: r' :: rest => r.sequence + 1 == r'.sequence && consecutive next (r' :: rest)

/-- 09 R161, R158 and 08 R155: at most 64 records with consecutive numbers; "either the closing queue is empty or the journal holds 64
records"; the write-off total within its limit. -/
def Account.legal (x : Account) : Bool :=
  decide (x.journal.length ≤ Config.journalDepth) && consecutive x.nextSeq x.journal &&
  (x.closing.isEmpty || decide (x.journal.length = Config.journalDepth)) && decide (x.writeOff ≤ moneyMax)

/-- Every parameter of the flight in the range that 10 R178 gives it: the chambers and sections, N, flasher, threshold, leases. -/
def Block.configLegal (b : Block) : Bool :=
  let cfg := b.config
  Parameter.inRange .chamberCount cfg.n.val && Parameter.inRange .flashHalfPeriod cfg.flashHalf &&
  Parameter.inRange .journalThreshold cfg.threshold &&
  chambersAll.all (fun c =>
    Parameter.inRange (.usableLength c) (cfg.chambers[c]).usable && Parameter.inRange (.vesselLimit c) (cfg.chambers[c]).limit) &&
  sectionsAll.all (fun k =>
    let x := cfg.sections[k]
    Parameter.inRange (.fullStroke k) x.stroke && Parameter.inRange (.overtravelMargin k) x.margin &&
    Parameter.inRange (.stallTicks k) x.stallTicks && Parameter.inRange (.crackDelay k) x.crackDelay &&
    Parameter.inRange (.transferLimit k) x.transferLimit && Parameter.inRange (.minimumTransfer k) x.minTransfer &&
    Parameter.inRange (.shutLimit k) x.shutLimit) &&
  Link.all.all (fun lk => Parameter.inRange (.leasePeriod lk) (b.link lk).lease.period)

/-- 11 R183, R188: the two queues of a link within their depths, and room for the reply to the request in hand, which is a good frame. -/
def LinkRec.legal (r : LinkRec) : Bool :=
  decide (r.requests.length ≤ Config.requestDepth) &&
  (if r.inHand then
    decide (r.replies.length < Config.replyDepth) &&
    (match r.requests with
     | .good _ _ _ :: _ => true
     | _ => false)
   else decide (r.replies.length ≤ Config.replyDepth))

/-- Every link in order, and a request in hand only on Link T, while its store access waits or runs (07 R119, 11 R188). -/
def Block.linksLegal (b : Block) : Bool :=
  Link.all.all (fun lk => (b.link lk).legal) && !(b.link .u).inHand && !(b.link .l).inHand &&
  (b.link .t).inHand == b.tariff.access.isSome

/-! ## Words of the statements -/

/-- The check of a byte string by the division of 11 R187: the bits, each byte most significant first. -/
def bitsOfBytes (bytes : List Byte) : List Bool :=
  bytes.flatMap fun x => [x.getLsbD 7, x.getLsbD 6, x.getLsbD 5, x.getLsbD 4, x.getLsbD 3, x.getLsbD 2, x.getLsbD 1, x.getLsbD 0]

/-- One more bit of the dividend brought down, and the divisor 107h taken off when it goes (11 R187). -/
def divideBit (remainder : Nat) (bit : Bool) : Nat :=
  let r := 2 * remainder + (if bit then 1 else 0)
  if 256 ≤ r then r ^^^ 0x107 else r

/-- "append eight zero bits. The check is the remainder of dividing that string by the polynomial, modulo 2" (11 R187). -/
def divisionRemainder (bytes : List Byte) : Nat := (bitsOfBytes bytes ++ List.replicate 8 false).foldl divideBit 0

namespace Machine

/-- The outcome of a command whose effect leaves the part `b`: the queue stands as it was. -/
def State.becomes (s : State) (b : Block) : Host.Outcome State Fault Refusal := .next { s with toBlock := b }

/-- The outcome of a request whose owner leaves the part `b`: its reply joins the reply queue of its link (11 R188). -/
def State.answers (s : State) (lk : Link) (code tag : Byte) (o : OutcomeCode) (p : Payload) (b : Block) : Host.Outcome State Fault Refusal :=
  s.becomes (b.reply lk { code := code, tag := tag, outcome := o, payload := p })

/-- A request of the control houses can be taken now (11 R188, R190). -/
def State.house (s : State) (lk : Link) : Prop := s.linkReady lk = true ∧ lk ≠ .t

/-- The same, and its section byte names section `k` (02 R22). -/
def State.asks (s : State) (lk : Link) (kByte : Byte) (k : Fin 5) : Prop := s.house lk ∧ s.sectionArg kByte = some k

/-- A request of the toll office can be taken now (11 R188, R190). -/
def State.office (s : State) (lk : Link) : Prop := s.linkReady lk = true ∧ lk = .t

end Machine
end Sys2Proof
end

