-- ==== Sys2Proof/Certificates/Slice0/Obligations.lean ====
section
/-! DEFINITION. The statements for the provers. `s.becomes b` is the next state with the part `b` and the same queue; `s.answers lk code
tag o p b` is the same with the reply of outcome `o` and payload `p` queued on link `lk`. Every part of the state that an equation does
not replace stands as it was: the equations are the frames. -/
open Sys2Proof Sys2Proof.Machine

/-! ## The queue of commands, and the requests as frames -/

/-- A step is the command at the front of the queue, run on the state with the queue's rest. -/
def Obligations.StepRunsFrontCommand : Prop :=
  ∀ (c : Instr) (rest : List Instr) (s : State), step { s with pending := c :: rest } = exec c { s with pending := rest }

/-- With no command waiting the block idles: the model's choice (log 18).
No command faults or is refused, and none touches the queue (11 R191: what cannot be done is answered with an outcome). -/
def Obligations.EveryCommandCompletes : Prop :=
  (∀ s : State, s.pending = [] → step s = .next s) ∧
  (∀ (i : Instr) (s : State), ∃ b, exec i s = s.becomes b)

/-- Every request row is its owner's answer, or NOT_PERMITTED, on a link that can take it, and nothing on one that cannot (log 3).
Which link can take one at once; and how an answer that comes now, or later, is left on the link (11 R188). -/
def Obligations.RequestRowIsOwnersAnswer : Prop :=
  (∀ (i : Instr) (s : State) (lk : Link) (tag code : Byte) (payload : List Byte), i.frame = some (lk, tag, code, payload) →
     (s.linkReady lk = true →
       exec i s =
         s.becomes (s.serveAlone lk code tag payload (fun b => if permitted code lk then i.own b else Answer.plain .notPermitted b))) ∧
     (s.linkReady lk = false → exec i s = .next s)) ∧
  (∀ (b : Block) (lk : Link),
     b.linkReady lk = true ↔
       (b.link lk).requests = [] ∧ (b.link lk).inHand = false ∧ (b.link lk).replies.length < 8 ∧ b.resetHeld = false) ∧
  (∀ (b : Block) (lk : Link) (code tag : Byte) (payload : List Byte) (own : Block → Answer),
     let a := own b
     let r := a.after.link lk
     b.serveAlone lk code tag payload own =
       match a.reply with
       | some (o, p) =>
         a.after.setLink lk { r with replies := r.replies ++ [{ code := code, tag := tag, outcome := o, payload := p }] }
       | none => a.after.setLink lk { r with requests := [.good code tag payload], inHand := true })

/-- The frame of every well-formed request row spells that row again, under a code of the list, in 48 bytes at most (13 R202, R203).
A code and a payload spell a request only where they are the frame of that well-formed row: a length that the request does not accept
(11 R188) and a drive byte beyond its list (02 R42) spell none.
The code and the payload of every request row: its arguments in the order in which its rule names them, the most significant byte first
(R202, R203); the codes of the list; and the outcome codes, 00h to 1Fh (R201). -/
def Obligations.FrameDecodesBack : Prop :=
  (∀ (i : Instr) (lk : Link) (tag code : Byte) (payload : List Byte), i.wellFormed = true → i.frame = some (lk, tag, code, payload) →
     decodeRequest lk tag code payload = some i ∧ codeKnown code = true ∧ payload.length ≤ Config.maxPayload) ∧
  (∀ (lk : Link) (tag code : Byte) (payload : List Byte) (i : Instr), decodeRequest lk tag code payload = some i →
     i.wellFormed = true ∧ i.frame = some (lk, tag, code, payload)) ∧
  (∀ (lk : Link) (tag x y z : Byte),
     let spells (i : Instr) (code : Byte) (payload : List Byte) : Prop := i.frame = some (lk, tag, code, payload)
     let bare : List ((Link → Byte → Instr) × Byte) :=
       [(.surveyAll, 0x33), (.openService, 0x60), (.endService, 0x61), (.stopAll, 0x62), (.resume, 0x63), (.flushAll, 0x75),
        (.flushNonstanding, 0x76), (.clearWriteOff, 0x82), (.readRatingState, 0x97), (.readMeters, 0x98), (.readWriteOff, 0x99),
        (.fetchNotice, 0xA0), (.readNoticeState, 0xA4)]
     let ofOne : List ((Link → Byte → Byte → Instr) × Byte) :=
       [(.claim, 0x10), (.cancelClaim, 0x11), (.release, 0x12), (.takeOver, 0x13), (.openGate, 0x20), (.closeGate, 0x21), (.stopGate, 0x22),
        (.clearFault, 0x23), (.setManual, 0x24), (.setAuto, 0x25)] ++
       [(.transfer, 0x30), (.abortTransfer, 0x31), (.survey, 0x32), (.call, 0x41), (.uncall, 0x42), (.defer, 0x43), (.advance, 0x44),
        (.withdraw, 0x45), (.hold, 0x46), (.unhold, 0x47), (.rerate, 0x48)] ++
       [(.setFreeze, 0x74), (.readSection, 0x90), (.readChamber, 0x91), (.readChannel, 0x92), (.readVessel, 0x93), (.readQueue, 0x94),
        (.readSignal, 0x95), (.readRateCache, 0x96), (.setLineThreshold, 0xA3)]
     let drives : List ((Link → Byte → Byte → Instr) × Byte × Byte) :=
       [(.driveGateOpen, 0x26, 0), (.driveGateClose, 0x26, 1), (.driveGateHalt, 0x26, 2), (.driveSluiceCrack, 0x27, 0),
        (.driveSluiceFull, 0x27, 1), (.driveSluiceShut, 0x27, 2)]
     (∀ p ∈ bare, spells (p.1 lk tag) p.2 []) ∧ (∀ p ∈ ofOne, spells (p.1 lk tag x) p.2 [x]) ∧
     (∀ p ∈ drives, spells (p.1 lk tag x) p.2.1 [x, p.2.2]) ∧
     spells (.setSignalMode lk tag x y) 0x50 [x, y] ∧ spells (.setAspect lk tag x y) 0x51 [x, y] ∧ spells (.readConfig lk tag x y) 0x9B [x, y] ∧
     spells (.flushKey lk tag x y z) 0x77 [x, y, z] ∧ spells (.setUrgent lk tag x y z) 0xA2 [x, y, z] ∧
     (∀ (a b : W16) (d : W32) (e : W64) (items : List ConfigItem) (pairs : List (Byte × Byte)),
       spells (.book lk tag d a x b y z) 0x40 (bytesOf32 d ++ bytesOf16 a ++ [x] ++ bytesOf16 b ++ [y, z]) ∧
       spells (.configure lk tag items) 0x64 (items.flatMap fun i => [i.param, i.index] ++ bytesOf16 i.value) ∧
       spells (.writeTariff lk tag a e) 0x70 (bytesOf16 a ++ bytesOf64 e) ∧ spells (.readTariff lk tag a) 0x71 (bytesOf16 a) ∧
       spells (.setRoot lk tag a) 0x72 (bytesOf16 a) ∧ spells (.setWindow lk tag x y a b) 0x73 ([x, y] ++ bytesOf16 a ++ bytesOf16 b) ∧
       spells (.setClock lk tag d) 0x80 (bytesOf32 d) ∧ spells (.setLockageCharge lk tag a) 0x81 (bytesOf16 a) ∧
       spells (.releaseJournal lk tag d) 0x83 (bytesOf32 d) ∧ spells (.readJournal lk tag none) 0x9A [] ∧
       spells (.readJournal lk tag (some d)) 0x9A (bytesOf32 d) ∧
       spells (.setNoticeLevel lk tag pairs) 0xA1 (pairs.flatMap fun p => [p.1, p.2]))) ∧
  (∀ (a : W16) (d : W32) (e : W64),
     let byte (x k : Nat) : Byte := BitVec.ofNat 8 (x / 256 ^ k)
     bytesOf16 a = [byte a.toNat 1, byte a.toNat 0] ∧ bytesOf32 d = [byte d.toNat 3, byte d.toNat 2, byte d.toNat 1, byte d.toNat 0] ∧
     bytesOf64 e =
       [byte e.toNat 7, byte e.toNat 6, byte e.toNat 5, byte e.toNat 4, byte e.toNat 3, byte e.toNat 2, byte e.toNat 1, byte e.toNat 0]) ∧
  (∀ code : Byte,
     codeKnown code = true ↔
       ∃ range ∈ [(0x10, 0x13), (0x20, 0x27), (0x30, 0x33), (0x40, 0x48), (0x50, 0x51), (0x60, 0x64), (0x70, 0x77), (0x80, 0x83),
         (0x90, 0x9B), (0xA0, 0xA4)], range.1 ≤ code.toNat ∧ code.toNat ≤ range.2) ∧
  [OutcomeCode.done, .accepted, .queued, .already, .badFrame, .unknownRequest, .notPermitted, .badArgument, .wrongCondition, .notHolder,
    .orphaned, .inProgress, .notLevel, .sensorDisagree, .lineBlocked, .lampFail, .reachOut, .faultPending, .notManual, .manualActive,
    .tableFull, .queueFull, .ratingBusy, .duplicateReg, .tooLong, .ratingPending, .accountHold, .wrongDirection, .noRoom, .noMeter,
    .outOfOrder, .badSequence].map OutcomeCode.number = List.range 32

/-- REQUEST_TAKEN hands the frame of a row to that row's owner: the reply takes the request's place, or comes later and leaves it at
the head, in hand (11 R188).
The Link Interface's own refusals, in their order; nothing but the link record changes (11 R188).
A request is taken only with a request waiting, none in hand and room for the reply (11 R188); that none is taken while the RESET pin is
held is the model's reading (log 31, DEDUCED: 10 R182 says it of transactions alone). -/
def Obligations.RequestTaken : Prop :=
  (∀ (i : Instr) (s : State) (lk : Link) (tag code : Byte) (payload : List Byte) (rest : List RequestEntry), i.wellFormed = true →
     i.frame = some (lk, tag, code, payload) → s.canTake lk = true → (s.link lk).requests = .good code tag payload :: rest →
     permitted code lk = true →
     exec (.requestTaken lk) s =
       s.becomes
         (let a := i.own s.toBlock
          let r := a.after.link lk
          match a.reply with
          | some (o, p) =>
            a.after.setLink lk
              { r with
                requests := r.requests.drop 1, inHand := false,
                replies := r.replies ++ [{ code := code, tag := tag, outcome := o, payload := p }] }
          | none => a.after.setLink lk { r with inHand := true })) ∧
  (∀ (s : State) (lk : Link) (head : RequestEntry) (rest : List RequestEntry), s.canTake lk = true → (s.link lk).requests = head :: rest →
     let r := s.link lk
     let refused (code tag : Byte) (o : OutcomeCode) :=
       s.becomes
         (s.setLink lk
           { r with
             requests := rest, inHand := false, replies := r.replies ++ [{ code := code, tag := tag, outcome := o, payload := .none }] })
     match head with
     | .bad code tag => exec (.requestTaken lk) s = refused code tag .badFrame
     | .good code tag payload =>
       (codeKnown code = false → exec (.requestTaken lk) s = refused code tag .unknownRequest) ∧
       (codeKnown code = true → permitted code lk = false → exec (.requestTaken lk) s = refused code tag .notPermitted) ∧
       (codeKnown code = true → permitted code lk = true → decodeRequest lk tag code payload = none →
         exec (.requestTaken lk) s = refused code tag .badArgument)) ∧
  (∀ (s : State) (lk : Link),
     let r := s.link lk
     ((r.requests = [] ∨ r.inHand = true ∨ 8 ≤ r.replies.length ∨ s.resetHeld = true) → exec (.requestTaken lk) s = .next s) ∧
     (s.canTake lk = true ↔ r.inHand = false ∧ r.replies.length < 8 ∧ s.resetHeld = false))

/-- Who may send which request, by code (11 R190): the control houses, the toll office, or all; any other is NOT_PERMITTED and does
nothing. -/
def Obligations.PermissionTable : Prop :=
  (∀ c ∈ [0x10, 0x11, 0x12, 0x13, 0x20, 0x21, 0x22, 0x23, 0x24, 0x25, 0x26, 0x27, 0x30, 0x31, 0x32, 0x33, 0x40, 0x41, 0x42, 0x43, 0x44,
      0x45, 0x50, 0x51, 0x60, 0x61, 0x62, 0x63, 0x64], permitted (byteOf c) .u ∧ permitted (byteOf c) .l ∧ ¬ permitted (byteOf c) .t) ∧
  (∀ c ∈ [0x46, 0x47, 0x48, 0x70, 0x71, 0x72, 0x73, 0x74, 0x75, 0x76, 0x77, 0x80, 0x81, 0x82, 0x83],
    ¬ permitted (byteOf c) .u ∧ ¬ permitted (byteOf c) .l ∧ permitted (byteOf c) .t) ∧
  (∀ c ∈ [0x90, 0x91, 0x92, 0x93, 0x94, 0x95, 0x96, 0x97, 0x98, 0x99, 0x9A, 0x9B, 0xA0, 0xA1, 0xA2, 0xA3, 0xA4],
    ∀ lk, permitted (byteOf c) lk) ∧
  (∀ (i : Instr) (s : State) (lk : Link) (tag code : Byte) (payload : List Byte), i.frame = some (lk, tag, code, payload) →
    s.linkReady lk = true → permitted code lk = false → exec i s = s.answers lk code tag .notPermitted .none s.toBlock)

/-- "A request naming a section above N is refused BAD_ARGUMENT" (02 R22, 03 R48): the claim, gate and transfer requests and READ
SECTION. -/
def Obligations.SectionAboveNIsBadArgument : Prop :=
  ∀ (i : Instr) (s : State) (lk : Link) (tag code k : Byte) (rest : List Byte), i.frame = some (lk, tag, code, k :: rest) →
    ((0x10 ≤ code.toNat ∧ code.toNat ≤ 0x31) ∨ code = 0x90) → s.linkReady lk = true → permitted code lk = true → s.n.val < k.toNat →
    exec i s = s.answers lk code tag .badArgument .none s.toBlock

/-! ## Transactions -/

/-- The check byte is the remainder of the division by x⁸ + x² + x + 1 (11 R187), over what it covers in a request and in a reply. -/
def Obligations.CheckByteIsDivisionRemainder : Prop :=
  (∀ bytes : List Byte, (crc8 bytes).toNat = divisionRemainder bytes ∧ crc8 (bytes ++ [crc8 bytes]) = 0) ∧
  crc8 [0x01, 0x00, 0x00] = 0x6B ∧ crc8 [0x01] = 0x07 ∧
  (∀ (code tag len check : Byte) (payload : List Byte), payload.length = len.toNat → len.toNat ≤ 48 →
    (goodFrame ([code, tag, len] ++ payload ++ [check]) = true ↔ check = crc8 ([code, tag, len] ++ payload))) ∧
  (∀ f : ReplyFrame,
    let covered := [byteOf f.payload.toBytes.length, f.code, f.tag, byteOf f.outcome.number] ++ f.payload.toBytes
    f.bytes = covered ++ [crc8 covered])

/-- SEND: a good frame reloads the lease and joins the request queue as a request, a bad one as a bad-frame entry; a full queue drops
either and sets DROPPED; the status byte and fill bytes of 0 go out (11 R184 to R186, 03 R56, R61). -/
def Obligations.SendQueuesAFrame : Prop :=
  ∀ (s : State) (lk : Link) (bytes : List Byte), s.resetHeld = false → bytes ≠ [] →
    let r := s.link lk
    let full := decide (3 ≤ r.requests.length)
    let shifted := r.statusByte :: List.replicate bytes.length 0
    (∀ (code tag : Byte) (payload : List Byte), payload.length ≤ 48 →
      let covered := [code, tag, byteOf payload.length] ++ payload
      bytes = covered ++ [crc8 covered] →
      exec (.send lk bytes) s =
        s.becomes
          (s.setLink lk
            { r with
              requests := if full then r.requests else r.requests ++ [.good code tag payload], dropped := full, out := shifted,
              lease :=
                { r.lease with
                  counter := r.lease.period,
                  state := if r.lease.state = .lapsed then (if r.lease.period = 0 then .off else .running) else r.lease.state } })) ∧
    (goodFrame bytes = false →
      exec (.send lk bytes) s =
        s.becomes
          (s.setLink lk
            { r with
              requests := if full then r.requests else r.requests ++ [.bad (bytes.getD 0 0) (bytes.getD 1 0)], dropped := full,
              out := shifted }))

/-- The fields of the link status byte (11 R185, 13 R200).
COLLECT: the no-reply marker, or the head reply, which leaves the queue when its last byte has been shifted out (11 R189).
The transaction byte decides: 5Eh is SEND, C3h COLLECT (11 R184, 13 R200). Any other, and a SEND without a frame, give the status byte and
fill bytes and clear DROPPED (R186; log 30); a transaction that ends inside its transaction byte does nothing; none is answered while the
RESET pin is held (10 R182).
The bytes of a payload: none, the bytes that a rule of 13 lays out (READ TARIFF, 07 R120; READ JOURNAL, 13 R205; FETCH NOTICE, 13 R206), and
48 at most for every other (R189), whose layout is free (log 6). -/
def Obligations.CollectAndIgnoredTransactions : Prop :=
  (∀ r : LinkRec, r.replies.length ≤ 8 → r.requests.length ≤ 3 →
     r.statusByte.toNat / 16 = r.replies.length ∧ r.statusByte.toNat / 4 % 4 = 3 - r.requests.length ∧
     r.statusByte.getLsbD 1 = r.dropped ∧ r.statusByte.getLsbD 0 = decide (r.lease.state = .lapsed)) ∧
  (Payload.none.toBytes = [] ∧ (∀ bs : List Byte, (Payload.bytes bs).toBytes = bs) ∧
   (∀ p : Payload, (∀ bs, p ≠ .bytes bs) → p.toBytes.length ≤ 48)) ∧
  (∀ (s : State) (lk : Link) (clocked : Nat), s.resetHeld = false →
     let r := s.link lk
     exec (.collect lk clocked) s =
       s.becomes
         (s.setLink lk
           (match r.replies with
            | [] => { r with dropped := false, out := r.statusByte :: (Config.noReplyMarker :: List.replicate clocked 0).take clocked }
            | f :: rest =>
              { r with
                dropped := false, out := r.statusByte :: (f.bytes ++ List.replicate clocked 0).take clocked,
                replies := if f.bytes.length ≤ clocked then rest else f :: rest }))) ∧
  (∀ (s : State) (lk : Link) (rest : List Byte),
     let r := s.link lk
     (exec (.ignoredTransaction lk (some 0x5E) rest) s = exec (.send lk rest) s ∧
       exec (.ignoredTransaction lk (some 0xC3) rest) s = exec (.collect lk rest.length) s) ∧
     (s.resetHeld = false →
       (∀ byte : Byte, byte ≠ 0x5E → byte ≠ 0xC3 →
         exec (.ignoredTransaction lk (some byte) rest) s =
           s.becomes (s.setLink lk { r with dropped := false, out := r.statusByte :: List.replicate rest.length 0 })) ∧
       exec (.ignoredTransaction lk none rest) s = s.becomes (s.setLink lk { r with out := [] }) ∧
       exec (.send lk []) s = s.becomes (s.setLink lk { r with dropped := false, out := [r.statusByte] })) ∧
     (s.resetHeld = true →
       ∀ (byte : Option Byte) (clocked : Nat),
         exec (.send lk rest) s = s.becomes (s.setLink lk { r with out := [] }) ∧
         exec (.collect lk clocked) s = s.becomes (s.setLink lk { r with out := [] }) ∧
         exec (.ignoredTransaction lk byte rest) s = s.becomes (s.setLink lk { r with out := [] })))

/-! ## Notices -/

/-- What each link records of a raising (11 R195). -/
def Obligations.RaisingIsRecorded : Prop :=
  ∀ (b : Block) (n : Notice) (lk : Link),
    let r := b.notice lk
    let r' := (b.raise n).notice lk
    (r.levels[n.kind] = 0 → r' = r) ∧
    (r.levels[n.kind] ≠ 0 →
      (r.entries[n.kind] = none → r' = { r with entries := r.entries.set n.kind (some { notice := n, overrun := false }) }) ∧
      (∀ e, r.entries[n.kind] = some e → r' = { r with entries := r.entries.set n.kind (some { notice := n, overrun := true }) }) ∧
      (∀ n' : Notice, n'.kind = n.kind →
        (((b.raise n).raise n').notice lk).entries[n.kind] = some { notice := n', overrun := true })) ∧
    b.raise n = { b with notices := (b.raise n).notices }

/-- When a link's NOTICE line is active (11 R196); it is read from the record, so it follows every change in the same event. -/
def Obligations.NoticeLineIsActive : Prop :=
  ∀ r : NoticeRec, r.line = true ↔
    ∃ k : Fin 16, (r.entries[k]).isSome = true ∧
      (r.threshold ≤ (r.levels[k]).val ∨ (r.urgent0.enable = true ∧ r.urgent0.kind = k) ∨ (r.urgent1.enable = true ∧ r.urgent1.kind = k))

/-- Which pending entry a FETCH NOTICE takes (11 R197).
FETCH NOTICE returns the chosen entry with the number left, and removes it; or "none" (11 R197, 13 R206).
SET NOTICE LEVEL, SET URGENT, SET LINE THRESHOLD and READ NOTICE STATE act on the link that sends them (11 R198); that SET URGENT with an
enable byte above 1 is BAD_ARGUMENT is the model's reading (log 23).
The kind and the argument bytes of every notice, and the count of pending entries (11 R193, 13 R206). -/
def Obligations.NoticeRequests : Prop :=
  ((∀ r : NoticeRec, r.pendingCount = ((List.finRange 16).filter fun k : Fin 16 => (r.entries[k]).isSome).length) ∧
   (let gives (n : Notice) (kind : Fin 16) (argument : List Byte) : Prop := n.kind = kind ∧ n.argument = argument
    let link (lk : Link) : Byte := match lk with | .u => 0 | .l => 1 | .t => 2
    let sideByte (side : Side) : Byte := match side with | .lower => 0 | .upper => 1
    let condition (c : Condition) : Byte := match c with | .setup => 0 | .service => 1 | .stopped => 2
    ∀ (k : Fin 5) (c : Fin 4) (v : Fin 16) (m : Bool) (n : Nat) (lk : Link) (side : Side) (d : W32),
      gives (.gateDone k m) 0 [byteOf k.val, markByte m] ∧
      (∀ f, gives (.gateFault k f) 1
        [byteOf k.val, match f with | .stall => 0 | .overtravel => 1 | .limitConflict => 2 | .drift => 3 | .shutFail => 4]) ∧
      gives (.transferDone k n) 2 (byteOf k.val :: bytesOf16 (BitVec.ofNat 16 n)) ∧
      (∀ e, gives (.transferFault k e) 3
        [byteOf k.val,
         match e with | .timeout => 0 | .aborted => 1 | .reachOut => 2 | .short => 3 | .depthMismatch => 4 | .shutFail => 5]) ∧
      gives (.levelFault c) 4 [byteOf (c.val + 1)] ∧ gives (.lineBlocked k) 5 [byteOf k.val] ∧
      gives (.claimGranted k lk m) 6 [byteOf k.val, link lk, markByte m] ∧ gives (.leaseLapsed lk) 7 [link lk] ∧
      gives (.vesselRated v none) 8 [byteOf v.val, 1, 0] ∧
      (∀ e, gives (.vesselRated v (some e)) 8
        [byteOf v.val, 2, match e with | .storeRange => 1 | .noTariff => 2 | .badTable => 3 | .badLeaf => 4 | .badIndirect => 5]) ∧
      gives (.vesselCleared v m) 9 [byteOf v.val, markByte m] ∧
      gives (.lampFault side .red) 10 [sideByte side, 0] ∧ gives (.lampFault side .green) 10 [sideByte side, 1] ∧
      gives (.reachChange side true) 11 [sideByte side, 0] ∧ gives (.reachChange side false) 11 [sideByte side, 1] ∧
      gives (.journalThreshold n d) 12 (byteOf n :: bytesOf32 d) ∧ gives (.journalFull d n) 13 (bytesOf32 d ++ [byteOf n]) ∧
      (∀ new old cause link?, gives (.conditionChange new old cause link?) 14
        [condition new, condition old,
         (match cause with
          | .powerOn => 0 | .reset => 1 | .openService => 2 | .endService => 3 | .stopAll => 4 | .estop => 5 | .resume => 6),
         match link? with | some lk => link lk | none => 0xFF]) ∧
      gives (.estop m) 15 [markByte m] ∧ markByte m = (if m then 1 else 0))) ∧
  (∀ r : NoticeRec,
     let first (u : Urgent) : Prop := u.enable = true ∧ (r.entries[u.kind]).isSome = true
     (first r.urgent0 → r.choose = some r.urgent0.kind) ∧
     (¬ first r.urgent0 → first r.urgent1 → r.choose = some r.urgent1.kind) ∧
     (¬ first r.urgent0 → ¬ first r.urgent1 →
       ∀ k : Fin 16, r.choose = some k ↔
         ((r.entries[k]).isSome = true ∧
           ∀ j : Fin 16, (r.entries[j]).isSome = true → r.levels[j] < r.levels[k] ∨ (r.levels[j] = r.levels[k] ∧ k ≤ j)))) ∧
  (∀ (s : State) (lk : Link) (tag : Byte), s.linkReady lk = true →
     let r := s.notice lk
     (r.choose = none → exec (.fetchNotice lk tag) s = s.answers lk 0xA0 tag .done (.bytes [0xFF, 0, 0, 0, 0, 0, 0, 0]) s.toBlock) ∧
     (∀ (k : Fin 16) (e : NoticeEntry), r.choose = some k → r.entries[k] = some e →
       let r' := { r with entries := r.entries.set k none }
       exec (.fetchNotice lk tag) s =
         s.answers lk 0xA0 tag .done
           (.bytes (([byteOf e.notice.kind.val, markByte e.overrun, byteOf r'.pendingCount] ++ e.notice.argument ++ List.replicate 5 0).take 8))
           (s.setNotice lk r'))) ∧
  (∀ (s : State) (lk : Link) (tag : Byte), s.linkReady lk = true →
     let r := s.notice lk
     (∀ pairs : List (Fin 16 × Fin 4), 1 ≤ pairs.length → pairs.length ≤ 16 →
       exec (.setNoticeLevel lk tag (pairs.map fun p => (byteOf p.1.val, byteOf p.2.val))) s =
         s.answers lk 0xA1 tag .done .none
           (s.setNotice lk
             (pairs.foldl
               (fun r p =>
                 { r with levels := r.levels.set p.1 p.2, entries := if p.2 = 0 then r.entries.set p.1 none else r.entries })
               r))) ∧
     (∀ pairs : List (Byte × Byte), (pairs = [] ∨ 16 < pairs.length ∨ ∃ p ∈ pairs, 15 < p.1.toNat ∨ 3 < p.2.toNat) →
       exec (.setNoticeLevel lk tag pairs) s = s.answers lk 0xA1 tag .badArgument .none s.toBlock) ∧
     (∀ (kind : Fin 16) (enable : Bool),
       exec (.setUrgent lk tag 0 (markByte enable) (byteOf kind.val)) s =
         s.answers lk 0xA2 tag .done .none (s.setNotice lk { r with urgent0 := { enable := enable, kind := kind } }) ∧
       exec (.setUrgent lk tag 1 (markByte enable) (byteOf kind.val)) s =
         s.answers lk 0xA2 tag .done .none (s.setNotice lk { r with urgent1 := { enable := enable, kind := kind } })) ∧
     (∀ slot enable kind : Byte, (1 < slot.toNat ∨ 1 < enable.toNat ∨ 15 < kind.toNat) →
       exec (.setUrgent lk tag slot enable kind) s = s.answers lk 0xA2 tag .badArgument .none s.toBlock) ∧
     (∀ t : Byte,
       exec (.setLineThreshold lk tag t) s =
         if 1 ≤ t.toNat ∧ t.toNat ≤ 3 then s.answers lk 0xA3 tag .done .none (s.setNotice lk { r with threshold := t.toNat })
         else s.answers lk 0xA3 tag .badArgument .none s.toBlock) ∧
     exec (.readNoticeState lk tag) s = s.answers lk 0xA4 tag .done (.noticeState r r.line) s.toBlock)

/-! ## Claims and leases -/

/-- CLAIM answers from the claim fields (03 R48).
CANCEL CLAIM (03 R50) and TAKE OVER (03 R53).
RELEASE: its checks in order, then the waiter becomes holder with CLAIM_GRANTED, or nobody does (03 R51, R52). -/
def Obligations.ClaimRequests : Prop :=
  (∀ (s : State) (lk : Link) (tag kByte : Byte) (k : Fin 5), s.asks lk kByte k →
     let x := s.sec k
     exec (.claim lk tag kByte) s =
       match x.holder with
       | none =>
         if x.orphan then s.answers lk 0x10 tag .orphaned .none s.toBlock
         else s.answers lk 0x10 tag .done .none (s.setSec k { x with holder := some lk })
       | some h =>
         if h = lk ∨ x.waiter = some lk then s.answers lk 0x10 tag .already .none s.toBlock
         else s.answers lk 0x10 tag .queued .none (s.setSec k { x with waiter := some lk })) ∧
  (∀ (s : State) (lk : Link) (tag kByte : Byte) (k : Fin 5), s.asks lk kByte k →
     let x := s.sec k
     exec (.cancelClaim lk tag kByte) s =
       (if x.waiter = some lk then s.answers lk 0x11 tag .done .none (s.setSec k { x with waiter := none })
        else s.answers lk 0x11 tag .already .none s.toBlock) ∧
     exec (.takeOver lk tag kByte) s =
       (if x.holder = some lk then s.answers lk 0x13 tag .already .none s.toBlock
        else if x.holder ≠ none then s.answers lk 0x13 tag .inProgress .none s.toBlock
        else if x.orphan then s.answers lk 0x13 tag .done .none (s.setSec k { x with holder := some lk, orphan := false })
        else s.answers lk 0x13 tag .badArgument .none s.toBlock)) ∧
  (∀ (s : State) (lk : Link) (tag kByte : Byte) (k : Fin 5), s.asks lk kByte k →
     let x := s.sec k
     exec (.release lk tag kByte) s =
       if x.holder ≠ some lk then s.answers lk 0x12 tag .notHolder .none s.toBlock
       else if x.gate = .opening ∨ x.gate = .closing then s.answers lk 0x12 tag .inProgress .none s.toBlock
       else if x.transfer ≠ none then s.answers lk 0x12 tag .inProgress .none s.toBlock
       else if x.mode = .manual then s.answers lk 0x12 tag .manualActive .none s.toBlock
       else if (k = 0 ∧ s.called .lower ≠ none) ∨ (k = s.n ∧ s.called .upper ≠ none) then s.answers lk 0x12 tag .inProgress .none s.toBlock
       else
         s.answers lk 0x12 tag .done .none
           (match x.waiter with
            | some w => (s.setSec k { x with holder := some w, waiter := none }).raise (.claimGranted k w false)
            | none => s.setSec k { x with holder := none }))

/-- LEASE_EXPIRY: a RUNNING lease at 0 lapses with LEASE_LAPSED; under RELEASE the lapse follows, under KEEP nothing (03 R57, R58).
What a lapse under RELEASE does to a section its link holds: motion, control mode, drawn sluice, claim fields and CLAIM_GRANTED with
TAKEN_OVER, channels and latches, the call and the signal of an end section; and that it leaves every other section alone (03 R59, R60; 04
R70; 06 R110; the parts in the order of log 34); every other record of the flight stays.
The whole lapse: this at every section of the flight that the link holds, in ascending order (R59), then the link removed as waiter wherever
it waits (R60), then both signals brought up to the state it leaves; that the parts follow one another so is the model's reading (log 34).
The lapsed link holds no section of the flight and waits for none afterwards (03 R59, R60), and each signal shows the aspect due to it after
the whole lapse (06 R107, R110). -/
def Obligations.LeaseLapse : Prop :=
  (∀ (s : State) (lk : Link),
     let x := (s.link lk).lease
     let lapsed := (s.setLink lk { s.link lk with lease := { x with state := .lapsed } }).raise (.leaseLapsed lk)
     exec (.leaseExpiry lk) s =
       if x.state = .running ∧ x.counter = 0 then s.becomes (match x.action with | .keep => lapsed | .release => lapsed.lapseRelease lk)
       else .next s) ∧
  (∀ (b : Block) (lk : Link) (k : Fin 5), (b.sec k).holder = some lk → (b.sec k).claimsLegal = true →
     let x := b.sec k
     let t := b.timer k
     let b' := Block.lapseSection lk b k
     let drawn := x.mode = .manual ∧ (x.sluice = .cracked ∨ x.sluice = .opened)
     let limit := (b.config.sections[k]).shutLimit
     b'.sec k =
       { x with
         holder := x.waiter, waiter := none, orphan := x.waiter.isNone, mode := .auto, gate := if x.moving then .stopped else x.gate,
         sluice := if drawn then .shutting else x.sluice } ∧
     b'.timer k =
       { stroke := if x.moving then { t.stroke with state := .idle } else t.stroke,
         stall := if x.moving then { t.stall with state := .idle } else t.stall,
         transfer := if drawn then { t.transfer with state := .running, count := limit, reload := limit, dir := .down } else t.transfer } ∧
     b'.notices = (match x.waiter with | some w => b.raise (.claimGranted k w true) | none => b).notices ∧
     (∀ side : Side,
       (k = b.endSection side →
         (∀ v, b.called side = some v → b'.vessel v = { b.vessel v with state := .waiting }) ∧
         b'.signal side = { b.signal side with mode := .auto }) ∧
       (k ≠ b.endSection side → b'.signal side = b.signal side)) ∧
     (∀ v, ((b.vessel v).state ≠ .called ∨ ∀ side, k = b.endSection side → v ∉ b.queue side) → b'.vessel v = b.vessel v) ∧
     b'.queues = b.queues ∧ b'.chambers = b.chambers ∧ b'.lists = b.lists ∧ b'.acct = b.acct ∧ b'.tariff = b.tariff ∧ b'.links = b.links ∧
     b'.cond = b.cond ∧ b'.config = b.config ∧ b'.resetHeld = b.resetHeld ∧ b'.tick = b.tick ∧ b'.quals = b.quals ∧
     b'.flasher = b.flasher ∧ b'.lamps = b.lamps ∧ (b'.drive k).gateOpen = false ∧ (b'.drive k).gateClose = false ∧
     (b'.drive k).paddleCrack = ((b.drive k).paddleCrack && x.mode == .auto) ∧
     (b'.drive k).paddleFull = ((b.drive k).paddleFull && x.mode == .auto) ∧
     (∀ j, j ≠ k → b'.sec j = b.sec j ∧ b'.drive j = b.drive j ∧ b'.timer j = b.timer j)) ∧
  (∀ (b : Block) (lk : Link),
     let flight : List (Fin 5) := [0, 1, 2, 3, 4].filter fun k => decide (k ≤ b.n)
     b.lapseRelease lk = (flight.foldl (Block.dropWait lk) (flight.foldl (Block.lapseSection lk) b)).refreshSignals ∧
     ∀ k : Fin 5,
       ((b.sec k).holder ≠ some lk → Block.lapseSection lk b k = b) ∧
       Block.dropWait lk b k = (if (b.sec k).waiter = some lk then b.setSec k { b.sec k with waiter := none } else b)) ∧
  (∀ (b : Block) (lk : Link) (k : Fin 5), b.claimsLegal = true → k ≤ b.n →
     ((b.lapseRelease lk).sec k).holder ≠ some lk ∧ ((b.lapseRelease lk).sec k).waiter ≠ some lk) ∧
  (∀ (b : Block) (lk : Link) (side : Side),
     ((b.lapseRelease lk).signal side).aspect = (b.lapseRelease lk).dueAspect side ∧
     ((b.sec (b.endSection side)).holder = some lk → ((b.lapseRelease lk).signal side).mode = .auto))

/-! ## Gates -/

/-- The start of a motion (02 R29). That the stall channel keeps its old count while STARTING is the model's choice (log 40).
The end of a motion: latches reset, stroke and stall channels IDLE, the gate and position given; short of its limit the gate is STOPPED, its
position as counted (02 R30, R33).
A fault entered at a gate: a new record, or the repeat mark of the one that stands, and GATE_FAULT (02 R24). -/
def Obligations.MotionAndFaultEffects : Prop :=
  (∀ (b : Block) (k : Fin 5) (dir : Travel),
     let x := b.sec k
     let t := b.timer k
     let cfg := b.config.sections[k]
     let travel :=
       match x.position, dir with
       | none, _ => cfg.stroke
       | some p, .opens => cfg.stroke - p
       | some p, .closes => p
     let load := min (travel + cfg.margin) 65535
     b.startMotion k dir =
       ((b.setTimer k
           { t with
             stroke := { t.stroke with state := .running, count := load, reload := load },
             stall := { t.stall with state := .starting, reload := cfg.stallTicks } }).setDrive k
         { b.drive k with gateOpen := dir == .opens, gateClose := dir == .closes }).setSec k
         { x with travel := dir, gate := match dir with | .opens => .opening | .closes => .closing }) ∧
  (∀ (b : Block) (k : Fin 5) (gate : GateState) (position : Option Nat),
     let t := b.timer k
     b.endMotion k gate position =
       ((b.setDrive k { b.drive k with gateOpen := false, gateClose := false }).setTimer k
         { t with stroke := { t.stroke with state := .idle }, stall := { t.stall with state := .idle } }).setSec k
         { b.sec k with gate := gate, position := position } ∧
     b.stopMotion k = b.endMotion k .stopped (b.sec k).position) ∧
  (∀ (b : Block) (k : Fin 5) (kind : FaultKind),
     let x := b.sec k
     b.gateFault k kind =
       (b.setSec k
         { x with
           fault :=
             match x.fault with
             | some f => some { f with repeated := true }
             | none => some { kind := kind, stamp := b.acct.clock, repeated := false } }).raise (.gateFault k kind))

/-- Which section is of which approach, and what the end section's checks read (02 R27, 01 R4, 06 R114).
OPEN GATE: its checks in order, those of R26 among them, and the start it is accepted with (02 R26, R27; 01 R9); a head sensor without a
reading refuses and makes no chamber UNKNOWN (04 R67). -/
def Obligations.OpenGate : Prop :=
  (∀ (b : Block) (k : Fin 5), 1 ≤ b.n →
     (b.reachOut k = true ↔
       (k = 0 ∧ b.reading (.band .lower) ≠ some true) ∨ (k = b.n ∧ b.reading (.band .upper) ≠ some true)) ∧
     (b.redNotProven k = true ↔
       (k = 0 ∧ (b.signal .lower).redState ≠ .proven) ∨ (k = b.n ∧ (b.signal .upper).redState ≠ .proven)) ∧
     (b.nearSluiceOpen k = true ↔
       ∃ j : Fin 5, j ≤ b.n ∧ (j = k ∨ j.val + 1 = k.val ∨ j.val = k.val + 1) ∧ (b.sec j).sluice ≠ .shut)) ∧
  (∀ (s : State) (lk : Link) (tag kByte : Byte) (k : Fin 5), s.asks lk kByte k →
     let x := s.sec k
     let answer (o : OutcomeCode) := s.answers lk 0x20 tag o .none s.toBlock
     exec (.openGate lk tag kByte) s =
       if s.cond.condition ≠ .service then answer .wrongCondition
       else if x.holder ≠ some lk then answer .notHolder
       else if x.mode = .manual then answer .manualActive
       else if x.fault ≠ none then answer .faultPending
       else if x.gate = .opening ∨ x.gate = .closing then answer .inProgress
       else if x.gate = .opened then answer .already
       else if s.reachOut k then answer .reachOut
       else if s.redNotProven k then answer .lampFail
       else if s.nearSluiceOpen k then answer .inProgress
       else if s.gateLevel k = false then answer .notLevel
       else
         match s.reading (.head k) with
         | some true => s.answers lk 0x20 tag .accepted .none (s.startMotion k .opens).refreshSignals
         | some false => s.answers lk 0x20 tag .sensorDisagree .none (s.headFault k)
         | none => answer .sensorDisagree)

/-- CLOSE GATE: the nine rows of its table in order, and the start it is accepted with (02 R28, R29); a beam without a
reading refuses it (04 R67). -/
def Obligations.CloseGate : Prop :=
  ∀ (s : State) (lk : Link) (tag kByte : Byte), s.house lk → 1 ≤ s.n →
    let answer (o : OutcomeCode) := s.answers lk 0x21 tag o .none s.toBlock
    (s.n.val < kByte.toNat → exec (.closeGate lk tag kByte) s = answer .badArgument) ∧
    (∀ k : Fin 5, k ≤ s.n → kByte.toNat = k.val →
      let x := s.sec k
      exec (.closeGate lk tag kByte) s =
        if s.cond.condition ≠ .service then answer .wrongCondition
        else if x.holder ≠ some lk then answer .notHolder
        else if x.mode = .manual then answer .manualActive
        else if x.fault ≠ none then answer .faultPending
        else if x.gate = .opening ∨ x.gate = .closing then answer .inProgress
        else if x.gate = .closed then answer .already
        else if (k = 0 ∧ s.reading (.band .lower) ≠ some true) ∨ (k = s.n ∧ s.reading (.band .upper) ≠ some true) then answer .reachOut
        else if s.reading (.beam k) ≠ some false then answer .lineBlocked
        else s.answers lk 0x21 tag .accepted .none (s.startMotion k .closes).refreshSignals)

/-- STOP GATE, in every condition and both modes (02 R33).
SET MANUAL and SET AUTO: the mode alone changes (02 R41). -/
def Obligations.StopGateAndControlMode : Prop :=
  (∀ (s : State) (lk : Link) (tag kByte : Byte) (k : Fin 5), s.asks lk kByte k →
     exec (.stopGate lk tag kByte) s =
       if (s.sec k).holder ≠ some lk then s.answers lk 0x22 tag .notHolder .none s.toBlock
       else if (s.sec k).gate = .opening ∨ (s.sec k).gate = .closing then
         s.answers lk 0x22 tag .done .none (s.stopMotion k).refreshSignals
       else s.answers lk 0x22 tag .already .none s.toBlock) ∧
  (∀ (s : State) (lk : Link) (tag kByte : Byte) (k : Fin 5), s.asks lk kByte k →
     let x := s.sec k
     let moving := x.gate = .opening ∨ x.gate = .closing
     exec (.setManual lk tag kByte) s =
       (if x.holder ≠ some lk then s.answers lk 0x24 tag .notHolder .none s.toBlock
        else if x.mode = .manual then s.answers lk 0x24 tag .already .none s.toBlock
        else if moving ∨ x.transfer ≠ none then s.answers lk 0x24 tag .inProgress .none s.toBlock
        else s.answers lk 0x24 tag .done .none (s.setSec k { x with mode := .manual })) ∧
     exec (.setAuto lk tag kByte) s =
       (if x.holder ≠ some lk then s.answers lk 0x25 tag .notHolder .none s.toBlock
        else if x.mode = .auto then s.answers lk 0x25 tag .already .none s.toBlock
        else if moving ∨ x.sluice ≠ .shut then s.answers lk 0x25 tag .inProgress .none s.toBlock
        else s.answers lk 0x25 tag .done .none (s.setSec k { x with mode := .auto })))

/-- CLEAR FAULT: its checks in order, then the record removed whole and a sluice in FAULT made SHUT (02 R40; a limit without a
reading refuses it, 04 R67). Its FAULT_PENDING carries the condition of R40's table that still holds (02, Recovering a faulted section; 11
R191); that of two that hold it is the first in R40's order is the model's reading (log 39). -/
def Obligations.ClearFault : Prop :=
  ∀ (s : State) (lk : Link) (tag kByte : Byte), s.house lk →
    let answer (o : OutcomeCode) := s.answers lk 0x23 tag o .none s.toBlock
    (s.n.val < kByte.toNat → exec (.clearFault lk tag kByte) s = answer .badArgument) ∧
    (∀ k : Fin 5, k ≤ s.n → kByte.toNat = k.val →
      let x := s.sec k
      let cleared := s.setSec k { x with fault := none, sluice := if x.sluice = .fault then .shut else x.sluice }
      exec (.clearFault lk tag kByte) s =
        (if x.holder ≠ some lk then answer .notHolder
         else if x.fault = none then answer .already
         else if s.reading (.openLimit k) = none ∨ s.reading (.closedLimit k) = none ∨
             (s.reading (.openLimit k) = some true ∧ s.reading (.closedLimit k) = some true) then
           s.answers lk 0x23 tag .faultPending (.faultCondition .bothLimits) s.toBlock
         else if x.sluice = .fault ∧ s.reading (.paddle k) ≠ some true then
           s.answers lk 0x23 tag .faultPending (.faultCondition .sluiceNotShut) s.toBlock
         else s.answers lk 0x23 tag .done .none cleared) ∧
      ∀ kind : FaultKind, ((cleared.gateFault k kind).sec k).fault = some { kind := kind, stamp := s.acct.clock, repeated := false })

/-- The first checks of every manual drive (02 R42, R43).
DRIVE GATE OPEN, CLOSE and HALT in a MANUAL section of their holder, SETUP or SERVICE (02 R42, R26; a limit, a beam or a
head sensor without a reading refuses, 04 R67). -/
def Obligations.DriveGate : Prop :=
  (∀ (s : State) (lk : Link) (tag kByte : Byte) (k : Fin 5), s.asks lk kByte k →
     ∀ o : OutcomeCode,
       (((s.sec k).holder ≠ some lk ∧ o = .notHolder) ∨ ((s.sec k).holder = some lk ∧ (s.sec k).mode = .auto ∧ o = .notManual) ∨
         ((s.sec k).holder = some lk ∧ (s.sec k).mode = .manual ∧ s.cond.condition = .stopped ∧ o = .wrongCondition)) →
       exec (.driveGateOpen lk tag kByte) s = s.answers lk 0x26 tag o .none s.toBlock ∧
       exec (.driveGateClose lk tag kByte) s = s.answers lk 0x26 tag o .none s.toBlock ∧
       exec (.driveGateHalt lk tag kByte) s = s.answers lk 0x26 tag o .none s.toBlock ∧
       exec (.driveSluiceCrack lk tag kByte) s = s.answers lk 0x27 tag o .none s.toBlock ∧
       exec (.driveSluiceFull lk tag kByte) s = s.answers lk 0x27 tag o .none s.toBlock ∧
       exec (.driveSluiceShut lk tag kByte) s = s.answers lk 0x27 tag o .none s.toBlock) ∧
  (∀ (s : State) (lk : Link) (tag kByte : Byte) (k : Fin 5), s.asks lk kByte k → (s.sec k).holder = some lk → (s.sec k).mode = .manual →
     s.cond.condition ≠ .stopped →
     let x := s.sec k
     let answer (o : OutcomeCode) := s.answers lk 0x26 tag o .none s.toBlock
     let blocked : Prop :=
       (∃ f, x.fault = some f ∧ f.kind = .limitConflict) ∨ s.reading (.openLimit k) = none ∨ s.reading (.closedLimit k) = none ∨
         (s.reading (.openLimit k) = some true ∧ s.reading (.closedLimit k) = some true)
     (blocked → exec (.driveGateOpen lk tag kByte) s = answer .faultPending ∧ exec (.driveGateClose lk tag kByte) s = answer .faultPending) ∧
     (¬ blocked →
       exec (.driveGateOpen lk tag kByte) s =
         (if x.gate = .opening ∨ x.gate = .opened then answer .already
          else if x.gate = .closing then answer .inProgress
          else if s.reachOut k then answer .reachOut
          else if s.nearSluiceOpen k then answer .inProgress
          else if s.gateLevel k = false then answer .notLevel
          else
            match s.reading (.head k) with
            | some true => s.answers lk 0x26 tag .accepted .none (s.startMotion k .opens).refreshSignals
            | some false => s.answers lk 0x26 tag .sensorDisagree .none (s.headFault k)
            | none => answer .sensorDisagree) ∧
       exec (.driveGateClose lk tag kByte) s =
         (if x.gate = .closing ∨ x.gate = .closed then answer .already
          else if x.gate = .opening then answer .inProgress
          else if s.reachOut k then answer .reachOut
          else if s.reading (.beam k) ≠ some false then answer .lineBlocked
          else s.answers lk 0x26 tag .accepted .none (s.startMotion k .closes).refreshSignals)) ∧
     exec (.driveGateHalt lk tag kByte) s =
       (if x.gate = .opening ∨ x.gate = .closing then s.answers lk 0x26 tag .done .none (s.stopMotion k).refreshSignals else answer .already))

/-- DRIVE SLUICE CRACK, FULL and SHUT in a MANUAL section of their holder: latches, sluice and chambers (02 R43, R44). The gates that its
check reads are Gk−1, Gk and Gk+1 of the flight (R43); the chambers beside the sluice become UNKNOWN and nothing else (01 R10). That the SHUT START
of a manual SHUT takes the shut limit configured at that moment (01 R12, 10 R178) is the model's reading (log 26, DEDUCED). -/
def Obligations.DriveSluice : Prop :=
  (∀ (b : Block) (k : Fin 5),
    (b.nearGateOpen k = true ↔
      ∃ j : Fin 5, j ≤ b.n ∧ (j = k ∨ j.val + 1 = k.val ∨ j.val = k.val + 1) ∧ (b.sec j).gate ≠ .closed) ∧
    b.unknownBeside k =
      { b with
        chambers := Vector.ofFn fun c => if c ∈ b.beside k then { b.chamber c with state := .unknown } else b.chamber c } ∧
    (k ≤ b.n → ∀ c : Fin 4, c ∈ b.beside k ↔ c.val + 1 = k.val ∨ (c.val = k.val ∧ c.val < b.n.val))) ∧
  ∀ (s : State) (lk : Link) (tag kByte : Byte) (k : Fin 5), s.asks lk kByte k → (s.sec k).holder = some lk → (s.sec k).mode = .manual →
    s.cond.condition ≠ .stopped →
    let x := s.sec k
    let d := s.drive k
    let t := s.timer k
    let limit := (s.config.sections[k]).shutLimit
    let done (b : Block) := s.answers lk 0x27 tag .done .none b
    let drawn (crack full : Bool) (st : SluiceState) : Block :=
      (s.setDrive k { d with paddleCrack := crack, paddleFull := full }).setSec k { x with sluice := st }
    let answer (o : OutcomeCode) := s.answers lk 0x27 tag o .none s.toBlock
    let closedToIt : Prop := s.nearGateOpen k = true ∨ ∃ c ∈ s.beside k, (s.chamber c).state = .transfer
    ((x.sluice = .fault →
        exec (.driveSluiceCrack lk tag kByte) s = answer .faultPending ∧ exec (.driveSluiceFull lk tag kByte) s = answer .faultPending) ∧
      ((x.sluice = .shutting ∨ (x.sluice ≠ .fault ∧ closedToIt)) →
        exec (.driveSluiceCrack lk tag kByte) s = answer .inProgress ∧ exec (.driveSluiceFull lk tag kByte) s = answer .inProgress)) ∧
    (¬ closedToIt →
      (x.sluice = .shut → exec (.driveSluiceCrack lk tag kByte) s = done ((drawn true d.paddleFull .cracked).unknownBeside k)) ∧
      ((x.sluice = .cracked ∨ x.sluice = .opened) → exec (.driveSluiceCrack lk tag kByte) s = answer .already) ∧
      (x.sluice = .shut → exec (.driveSluiceFull lk tag kByte) s = done ((drawn true true .opened).unknownBeside k)) ∧
      (x.sluice = .cracked → exec (.driveSluiceFull lk tag kByte) s = done (drawn d.paddleCrack true .opened)) ∧
      (x.sluice = .opened → exec (.driveSluiceFull lk tag kByte) s = answer .already)) ∧
    ((x.sluice = .cracked ∨ x.sluice = .opened) →
      exec (.driveSluiceShut lk tag kByte) s =
        done
          ((drawn false false .shutting).setTimer k
            { t with transfer := { t.transfer with state := .running, count := limit, reload := limit, dir := .down } })) ∧
    ((x.sluice = .shut ∨ x.sluice = .shutting ∨ x.sluice = .fault) →
      exec (.driveSluiceShut lk tag kByte) s = answer .already)

/-- One encoder pulse: position, stroke channel, stall channel (02 R23; 04 R68, R71, R72). A ZERO or an EXPIRY of its section that an
earlier pulse or tick made is taken before it; the pulse then moves the position alone (R72: "the motion ends as STALL, and the pulse then
moves the position alone"). That a ZERO which stands is so taken too is the model's order (log 2).
The beam broken during a closing (02 R36), and a head sensor at HEAD (02 R37, 01 R9).
ZERO ends an AUTO motion as OVERTRAVEL (02 R32), STALL_EXPIRY any motion as STALL (02 R34); neither acts when it is not due. -/
def Obligations.PulseBeamHeadZeroStall : Prop :=
  (∀ (s : State) (k : Fin 5),
     let x := s.sec k
     let t := s.timer k
     (s.n < k → exec (.encoderPulse k) s = .next s) ∧
     (k ≤ s.n →
       let first : Block :=
         if x.mode = .auto ∧ x.moving = true ∧ t.stroke.state = .ended then ((s.stopMotion k).gateFault k .overtravel).refreshSignals
         else if x.moving = true ∧ t.stall.state = .ended then ((s.stopMotion k).gateFault k .stall).refreshSignals
         else s.toBlock
       let x := first.sec k
       let t := first.timer k
       exec (.encoderPulse k) s =
         s.becomes
           ((first.setSec k
               { x with
                 position :=
                   match x.position, x.travel with
                   | none, _ => none
                   | some p, .opens => some (min (p + 1) (s.config.sections[k]).stroke)
                   | some p, .closes => some (p - 1) }).setTimer k
             { t with
               stroke :=
                 if t.stroke.state = .running then
                   (if t.stroke.count ≤ 1 then { t.stroke with state := .ended, count := 0 } else { t.stroke with count := t.stroke.count - 1 })
                 else t.stroke,
               stall := if t.stall.state = .running then { t.stall with count := t.stall.reload } else t.stall }) ∧
       (x.gate = .opening ∨ x.gate = .closing ↔ x.moving = true) ∧
       (first ≠ s.toBlock → (first.timer k).stroke.state = .idle ∧ (first.timer k).stall.state = .idle))) ∧
  (∀ (b : Block) (k : Fin 5),
     b.beamEffect k true = (if (b.sec k).gate = .closing then ((b.stopMotion k).raise (.lineBlocked k)).refreshSignals else b) ∧
     b.beamEffect k false = b ∧
     b.headEffect k false =
       (if (b.sec k).gate = .closed then b
        else ((if (b.sec k).moving then b.stopMotion k else b).headFault k).refreshSignals)) ∧
  (∀ (s : State) (k : Fin 5),
     let x := s.sec k
     exec (.zero k) s =
       (if x.mode = .auto ∧ x.moving = true ∧ (s.timer k).stroke.state = .ended then
         s.becomes ((s.stopMotion k).gateFault k .overtravel).refreshSignals
        else .next s) ∧
     exec (.stallExpiry k) s =
       (if x.moving = true ∧ (s.timer k).stall.state = .ended then s.becomes ((s.stopMotion k).gateFault k .stall).refreshSignals else .next s))

/-- An arrival row takes the arrival its qualifier has made: the reading takes the value, and the blocks of the flight are offered it;
without one it does nothing (04 R65, R66, log 1). Floats change their reading alone (01 R6).
What each input's arrival is to the blocks it is offered to, and which arrivals are offered (04 R66).
A limit arrival during a motion: a conflict where the opposite limit arrives active or both are active, success where the target limit does
(02 R31, R35), the other limit read or not (that an unread opposite limit does not keep the target one from its success is log 11, DEDUCED).
At rest, on the pair of readings it leaves: conflict, a STOPPED gate that settles, or drift (R39); without a pair nothing (log 11). A first
reading: nothing with the other limit unread, R46's table with both read at rest; with both read during a motion, log 35. -/
def Obligations.ArrivalRows : Prop :=
  (∀ (s : State) (i : Instr) (input : Input),
     ((∃ k, (i = .limitArrival k .openLimit ∧ input = .openLimit k) ∨ (i = .limitArrival k .closedLimit ∧ input = .closedLimit k) ∨
         (i = .beamArrival k ∧ input = .beam k) ∨ (i = .headSensorArrival k ∧ input = .head k) ∨
         (i = .paddleShutArrival k ∧ input = .paddle k)) ∨
       (∃ c, (i = .floatArrival c .low ∧ input = .lowFloat c) ∨ (i = .floatArrival c .high ∧ input = .highFloat c)) ∨
       (∃ side, (i = .bandArrival side ∧ input = .band side) ∨ (i = .lampProvingArrival side .red ∧ input = .redProving side) ∨
         (i = .lampProvingArrival side .green ∧ input = .greenProving side)) ∨
       (i = .estopArrival ∧ input = .estop)) →
     let q := s.qual input
     (q.raised = none → exec i s = .next s) ∧
     (∀ v : Bool, q.raised = some v →
       let taken := s.setQual input { q with state := some v, raised := none }
       (s.offered input = false → exec i s = s.becomes taken) ∧
       (s.offered input = true → exec i s = s.becomes (taken.arrivalEffect input q.state v)) ∧
       (∀ c w, i = .floatArrival c w → exec i s = s.becomes taken))) ∧
  (∀ (b : Block) (before : Option Bool) (v : Bool),
     (∀ k : Fin 5,
       b.arrivalEffect (.openLimit k) before v = b.limitEffect k .openLimit before v ∧
       b.arrivalEffect (.closedLimit k) before v = b.limitEffect k .closedLimit before v ∧
       b.arrivalEffect (.beam k) before v = b.beamEffect k v ∧ b.arrivalEffect (.head k) before v = b.headEffect k v ∧
       b.arrivalEffect (.paddle k) before v = b.paddleArrival k v) ∧
     (∀ c : Fin 4, b.arrivalEffect (.lowFloat c) before v = b ∧ b.arrivalEffect (.highFloat c) before v = b) ∧
     (∀ side : Side,
       b.arrivalEffect (.band side) before v = (b.bandEffect side before v).refreshSignals ∧
       b.arrivalEffect (.redProving side) before v = (b.provingArrival side .red v).refreshSignals ∧
       b.arrivalEffect (.greenProving side) before v = b.provingArrival side .green v) ∧
     b.arrivalEffect .estop before v = b.estopEffect v) ∧
  (∀ b : Block,
     (∀ k : Fin 5, ∀ input ∈ [Input.openLimit k, .closedLimit k, .beam k, .head k, .paddle k], b.offered input = true ↔ k ≤ b.n) ∧
     (∀ c : Fin 4, ∀ input ∈ [Input.lowFloat c, .highFloat c], b.offered input = true ↔ c.val < b.n.val) ∧
     (∀ side : Side, ∀ input ∈ [Input.band side, .redProving side, .greenProving side, .estop], b.offered input = true)) ∧
  (∀ (b : Block) (k : Fin 5) (which : LimitSwitch) (before : Option Bool) (active : Bool),
     b.reading (.openLimit k) = none ∨ b.reading (.closedLimit k) = none →
     let ends (target : LimitSwitch) (success : Block) : Block :=
       (if active = false then b else if which = target then success else (b.stopMotion k).gateFault k .limitConflict).refreshSignals
     b.limitEffect k which before active =
       if before = none then b
       else
         match (b.sec k).gate with
         | .opening => ends .openLimit ((b.endMotion k .opened (some (b.config.sections[k]).stroke)).raise (.gateDone k true))
         | .closing => ends .closedLimit ((b.endMotion k .closed (some 0)).raise (.gateDone k false))
         | _ => b) ∧
  (∀ (b : Block) (k : Fin 5) (which : LimitSwitch) (before : Option Bool) (active o c : Bool),
     b.reading (.openLimit k) = some o → b.reading (.closedLimit k) = some c →
     active = (match which with | .openLimit => o | .closedLimit => c) →
     let opened := b.endMotion k .opened (some (b.config.sections[k]).stroke)
     let closed := b.endMotion k .closed (some 0)
     let adrift := b.endMotion k .stopped none
     let conflict := (b.stopMotion k).gateFault k .limitConflict
     let both := o = true ∧ c = true
     let neither := o = false ∧ c = false
     b.limitEffect k which before active =
       (match (b.sec k).gate with
        | .opening =>
          if both ∨ (which = LimitSwitch.closedLimit ∧ active = true) then conflict
          else if active = true ∨ (before = none ∧ o = true) then opened.raise (.gateDone k true)
          else b
        | .closing =>
          if both ∨ (which = LimitSwitch.openLimit ∧ active = true) then conflict
          else if active = true ∨ (before = none ∧ c = true) then closed.raise (.gateDone k false)
          else b
        | gate =>
          if before = none then
            if both then adrift.gateFault k .limitConflict else if neither then adrift else if o then opened else closed
          else if both then conflict
          else if gate = GateState.stopped then if neither then b else if o then opened else closed
          else if neither then adrift.gateFault k .drift
          else b).refreshSignals)

/-! ## Water -/

/-- The gate level rule (01 R2).
The sluice transfer rule: the first row that holds (01 R3). -/
def Obligations.LevelAndTransferRules : Prop :=
  (∀ (b : Block) (k : Fin 5), k ≤ b.n →
     (b.gateLevel k = true ↔
       ∀ c : Fin 4, c.val < b.n.val →
         (c.val + 1 = k.val → (b.chamber c).state = .full) ∧ (c.val = k.val → (b.chamber c).state = .empty))) ∧
  (∀ (b : Block) (k : Fin 5), k ≤ b.n →
     let served (c : Fin 4) : Prop := c.val < b.n.val ∧ (c.val + 1 = k.val ∨ c.val = k.val)
     let stands (st : ChamberState) : Prop := ∃ c, served c ∧ (b.chamber c).state = st
     let permitted : Prop :=
       ∀ c, served c →
         (c.val + 1 = k.val → (b.chamber c).state = .empty) ∧ (c.val = k.val → (b.chamber c).state = .full)
     (stands .transfer → b.transferAnswer k = .busy) ∧
     (¬ stands .transfer → stands .unknown → b.transferAnswer k = .unknown) ∧
     (¬ stands .transfer → ¬ stands .unknown → permitted → b.transferAnswer k = .permitted) ∧
     (¬ stands .transfer → ¬ stands .unknown → ¬ permitted → b.transferAnswer k = .refused))

/-- TRANSFER: its checks in order (01 R13), and what it starts: the chambers served in TRANSFER, the sluice CRACKED with its latch, the
transfer record, the channel STARTING with its three settings (01 R14, 04 R73). The gates it reads are Gk−1, Gk and Gk+1 of the flight, the
neighbouring sluices Sk−1 and Sk+1 (R13); a head sensor without a reading refuses and makes no chamber UNKNOWN (04 R67).
That the channel keeps its old count while STARTING is the model's choice (log 40). -/
def Obligations.Transfer : Prop :=
  (∀ (b : Block) (k : Fin 5),
    (b.nearGateOpen k = true ↔
      ∃ j : Fin 5, j ≤ b.n ∧ (j = k ∨ j.val + 1 = k.val ∨ j.val = k.val + 1) ∧ (b.sec j).gate ≠ .closed) ∧
    (b.neighbourSluiceOpen k = true ↔
      ∃ j : Fin 5, j ≤ b.n ∧ (j.val + 1 = k.val ∨ j.val = k.val + 1) ∧ (b.sec j).sluice ≠ .shut)) ∧
  ∀ (s : State) (lk : Link) (tag kByte : Byte) (k : Fin 5), s.asks lk kByte k →
    let x := s.sec k
    let t := s.timer k
    let cfg := s.config.sections[k]
    let answer (o : OutcomeCode) := s.answers lk 0x30 tag o .none s.toBlock
    exec (.transfer lk tag kByte) s =
      if s.cond.condition ≠ .service then answer .wrongCondition
      else if x.holder ≠ some lk then answer .notHolder
      else if x.mode = .manual then answer .manualActive
      else if x.fault ≠ none then answer .faultPending
      else if x.sluice ≠ .shut then answer .inProgress
      else if s.nearGateOpen k then answer .inProgress
      else if s.neighbourSluiceOpen k then answer .inProgress
      else if s.reachOut k then answer .reachOut
      else
        match s.transferAnswer k, s.reading (.head k) with
        | .busy, _ => answer .inProgress
        | .unknown, _ => answer .notLevel
        | .refused, _ => answer .notLevel
        | .permitted, some true => s.answers lk 0x30 tag .sensorDisagree .none (s.headFault k)
        | .permitted, none => answer .sensorDisagree
        | .permitted, some false =>
          s.answers lk 0x30 tag .accepted .none
            (((((s.beside k).foldl (fun a c => a.setChamber c { a.chamber c with state := .transfer }) s.toBlock).setSec k
                { x with
                  sluice := .cracked, transfer := some { start := s.acct.clock, phase := .crack, cause := none, captured := none } }).setDrive k
                { s.drive k with paddleCrack := true }).setTimer k
              { t with
                transfer :=
                  { t.transfer with
                    state := .starting, reload := cfg.shutLimit, compare := cfg.crackDelay, limit := cfg.transferLimit, capture := 0,
                    dir := .up } })

/-- ABORT TRANSFER (01 R18).
A cause given to a running transfer: the first one stands; in CRACK and FULL the sluice is shut and the shut limit runs, in SHUT_WAIT
the cause alone is recorded (01 R18, 04 R75). That this SHUT START takes the shut limit configured at that moment is the model's reading (log
26, DEDUCED).
A band arrival tells of a change of the band state, and OUT_OF_BAND aborts the transfer of the end section (01 R4, R18).
A level fault at a chamber: UNKNOWN with LEVEL_FAULT; in TRANSFER its transfer is aborted; UNKNOWN already, nothing (01 R9, R11). At a gate
it reaches each chamber beside it, the lower one first (R9; the order is the model's choice, log 38). The transfer of a chamber is the one
that runs through a sluice of its own (R14). -/
def Obligations.TransferCauses : Prop :=
  (∀ (b : Block) (c : Fin 4),
     b.transferOf c =
       if (b.sec c.castSucc).transfer ≠ none then some c.castSucc else if (b.sec c.succ).transfer ≠ none then some c.succ else none) ∧
  (∀ (s : State) (lk : Link) (tag kByte : Byte) (k : Fin 5), s.asks lk kByte k →
     exec (.abortTransfer lk tag kByte) s =
       if (s.sec k).holder ≠ some lk then s.answers lk 0x31 tag .notHolder .none s.toBlock
       else
         match (s.sec k).transfer with
         | none => s.answers lk 0x31 tag .already .none s.toBlock
         | some r =>
           if r.cause = none then s.answers lk 0x31 tag .done .none (s.giveCause k .aborted)
           else s.answers lk 0x31 tag .already .none s.toBlock) ∧
  (∀ (b : Block) (k : Fin 5) (cause : Cause),
     let x := b.sec k
     let d := b.drive k
     let t := b.timer k
     let limit := (b.config.sections[k]).shutLimit
     (x.transfer = none → b.giveCause k cause = b) ∧
     (∀ r, x.transfer = some r →
       (r.cause ≠ none → b.giveCause k cause = b) ∧
       (r.cause = none → r.phase = .shutWait → b.giveCause k cause = b.setSec k { x with transfer := some { r with cause := some cause } }) ∧
       (r.cause = none → r.phase ≠ .shutWait →
         b.giveCause k cause =
           ((b.setSec k { x with sluice := .shutting, transfer := some { r with cause := some cause, phase := .shutWait } }).setDrive k
             { d with paddleCrack := false, paddleFull := false }).setTimer k
             { t with transfer := { t.transfer with state := .running, count := limit, reload := limit, dir := .down } }))) ∧
  (∀ (b : Block) (side : Side) (before : Option Bool),
     b.bandEffect side before true = b.raise (.reachChange side true) ∧
     b.bandEffect side (some true) false = (b.raise (.reachChange side false)).giveCause (b.endSection side) .reachOut ∧
     b.bandEffect side none false = b.giveCause (b.endSection side) .reachOut) ∧
  (∀ (b : Block) (c : Fin 4),
     let x := b.chamber c
     Block.levelFault false b c =
       match x.state with
       | .unknown => b
       | .transfer => ((b.transferOf c).elim b (fun k => b.giveCause k .aborted)).raise (.levelFault c)
       | _ => (b.setChamber c { x with state := .unknown }).raise (.levelFault c)) ∧
  (∀ (b : Block) (k : Fin 5), b.headFault k = (b.beside k).foldl (Block.levelFault false) b)

/-- COMPARE draws the sluice full (01 R15; the FULL latch in AUTO only, 04 R79), and EXPIRY_LIMIT shuts it as TIMEOUT (01 R17); neither
does anything when it is not due (log 1).
A LEVEL arrival at a channel that is STARTING or counts UP captures its count, and shuts the sluice of a running transfer in CRACK or FULL
without a cause; at any other channel it captures nothing and changes nothing (01 R16, 04 R74). -/
def Obligations.TransferPhases : Prop :=
  (∀ (s : State) (k : Fin 5),
     let x := s.sec k
     let d := s.drive k
     let ch := (s.timer k).transfer
     (x.transfer = none → exec (.compare k) s = .next s ∧ exec (.expiryLimit k) s = .next s) ∧
     (∀ r, x.transfer = some r →
       exec (.compare k) s =
         (if r.cause = none ∧ r.phase = .crack ∧ ch.state = .running ∧ ch.dir = .up ∧ ch.count = ch.compare then
           s.becomes
             (let b := s.setSec k { x with sluice := .opened, transfer := some { r with phase := .full } }
              match x.mode with
              | .auto => b.setDrive k { d with paddleFull := true }
              | .manual => b)
          else .next s) ∧
       exec (.expiryLimit k) s =
         (if r.cause = none ∧ r.phase ≠ .shutWait ∧ ch.state = .running ∧ ch.dir = .down then
           s.becomes
             ((s.setSec k { x with sluice := .shutting, transfer := some { r with phase := .shutWait, cause := some .timeout } }).setDrive k
               { d with paddleCrack := false, paddleFull := false })
          else .next s))) ∧
  (∀ (b : Block) (k : Fin 5),
     let x := b.sec k
     let t := b.timer k
     let n := if t.transfer.state = .starting then 0 else t.transfer.count
     let captured := b.setTimer k
       { t with transfer := { t.transfer with state := .running, count := t.transfer.reload, capture := n, dir := .down } }
     b.headEffect k true =
       if t.transfer.state = .starting ∨ (t.transfer.state = .running ∧ t.transfer.dir = .up) then
         match x.transfer with
         | some r =>
           if r.phase ≠ .shutWait ∧ r.cause = none then
             (captured.setSec k { x with sluice := .shutting, transfer := some { r with phase := .shutWait, captured := some n } }).setDrive k
               { b.drive k with paddleCrack := false, paddleFull := false }
           else captured
         | none => captured
       else b)

/-- The paddle proof of a SHUTTING sluice: it is SHUT and its channel IDLE; a transfer ends (01 R12, R19; 02 R44).
The paddle proof lost at a SHUT sluice with no paddle latch set: the sluice in FAULT, SHUT_FAIL entered with GATE_FAULT, and a level fault at
each chamber beside it, the lower one first (log 38), told of an UNKNOWN one too (01 R10, R11; log 10, DEDUCED); any other arrival of the
input changes nothing.
The lockage decision of a successful transfer: each chamber whose list holds a vessel counts a lockage and the vessels of both, the lower
chamber's first, are handed to the Account Unit, a crossing's alike; with both lists empty each chamber counts an empty lockage (01 R21).
The chambers of a successful transfer stand at the level of their section: Ck FULL and Ck+1 EMPTY, and nothing else changes; and
Gk is level (01 R3, R19). The depths match when a chamber to become FULL reads HIGH and one to become EMPTY reads LOW (R19).
EXPIRY_SHUT: the sluice in FAULT and its channel IDLE; under a transfer the chambers UNKNOWN, the record gone and TRANSFER_FAULT
(01 R20), outside one GATE_FAULT (02 R44). -/
def Obligations.TransferEnds : Prop :=
  (∀ (b : Block) (k : Fin 5),
     let x := b.sec k
     let t := b.timer k
     x.sluice = .shutting →
     (x.transfer = none →
       b.paddleArrival k true =
         (b.setSec k { x with sluice := .shut }).setTimer k { t with transfer := { t.transfer with state := .idle } }) ∧
     (∀ r, x.transfer = some r →
       let n := r.captured.getD 0
       let shut := (b.setSec k { x with sluice := .shut, transfer := none, lastTicks := n }).setTimer k
         { t with transfer := { t.transfer with state := .idle } }
       b.paddleArrival k true =
         match r.cause with
         | some c =>
           (shut.unknownBeside k).raise
             (.transferFault k (match c with | .timeout => .timeout | .aborted => .aborted | .reachOut => .reachOut))
         | none =>
           if n < (b.config.sections[k]).minTransfer then
             (b.beside k).foldl (fun a c => a.raise (.levelFault c)) ((shut.unknownBeside k).raise (.transferFault k .short))
           else if b.depthsMatch k = false then
             (b.beside k).foldl (fun a c => a.raise (.levelFault c)) ((shut.unknownBeside k).raise (.transferFault k .depthMismatch))
           else ((shut.levelled k).raise (.transferDone k n)).lockageDecision k)) ∧
  ((∀ (b : Block) (k : Fin 5),
      let x := b.sec k
      let d := b.drive k
      (x.sluice = .shut → d.paddleCrack = false → d.paddleFull = false →
        b.paddleArrival k false =
          (b.beside k).foldl (Block.levelFault true) ((b.setSec k { x with sluice := .fault }).gateFault k .shutFail)) ∧
      ((x.sluice ≠ .shut ∨ d.paddleCrack = true ∨ d.paddleFull = true) → b.paddleArrival k false = b) ∧
      (x.sluice ≠ .shutting → b.paddleArrival k true = b)) ∧
   (∀ (b : Block) (c : Fin 4),
      Block.levelFault true b c = if (b.chamber c).state = .unknown then b.raise (.levelFault c) else Block.levelFault false b c) ∧
   (∀ (b : Block) (k : Fin 5) (c : Fin 4), k ≤ b.n →
      (c ∈ b.beside k ↔ c.val + 1 = k.val ∨ (c.val = k.val ∧ c.val < b.n.val))) ∧
   (∀ (b : Block) (k : Fin 5), k ≤ b.n →
      (b.depthsMatch k = true ↔
        ∀ c : Fin 4, c.val < b.n.val →
          (c.val + 1 = k.val → b.reading (.lowFloat c) = some false ∧ b.reading (.highFloat c) = some true) ∧
          (c.val = k.val → b.reading (.lowFloat c) = some true ∧ b.reading (.highFloat c) = some false)))) ∧
  (∀ (b : Block) (k : Fin 5), k ≤ b.n →
     let lower : List (Fin 16) := if h : 0 < k.val then b.list ⟨k.val - 1, by omega⟩ else []
     let upper : List (Fin 16) := if h : k.val < b.n.val then b.list ⟨k.val, by omega⟩ else []
     let handed := b.lockageEvent (lower ++ upper)
     let b' := b.lockageDecision k
     (lower ++ upper ≠ [] →
       b'.vessels = handed.vessels ∧ b'.acct = handed.acct ∧
       ∀ c ∈ b.beside k,
         (b.list c ≠ [] → b'.chamber c = { b.chamber c with lockages := (b.chamber c).lockages + 1 }) ∧
         (b.list c = [] → b'.chamber c = b.chamber c)) ∧
     (lower = [] → upper = [] →
       b'.vessels = b.vessels ∧ b'.acct = b.acct ∧
       ∀ c ∈ b.beside k, b'.chamber c = { b.chamber c with emptyLockages := (b.chamber c).emptyLockages + 1 }) ∧
     (∀ lo hi : Fin 4, lo.val + 1 = k.val → hi.val = k.val → hi.val < b.n.val → b.list lo ≠ [] → b.list hi ≠ [] →
       lower ++ upper = b.list lo ++ b.list hi ∧ (b'.chamber lo).lockages = (b.chamber lo).lockages + 1 ∧
       (b'.chamber hi).lockages = (b.chamber hi).lockages + 1) ∧
     (∀ c, c ∉ b.beside k → b'.chamber c = b.chamber c) ∧
     b' = { b with chambers := b'.chambers, vessels := b'.vessels, acct := b'.acct }) ∧
  (∀ (b : Block) (k : Fin 5), k ≤ b.n →
     b.levelled k =
       { b with
         chambers := Vector.ofFn fun c =>
           let x := b.chamber c
           if c.val + 1 = k.val then { x with state := .full }
           else if c.val = k.val ∧ c.val < b.n.val then { x with state := .empty }
           else x } ∧
     (∀ c : Fin 4, ((b.levelled k).chamber c).state =
       if c.val + 1 = k.val then .full else if c.val = k.val ∧ c.val < b.n.val then .empty else (b.chamber c).state) ∧
     (b.levelled k).gateLevel k = true) ∧
  (∀ (s : State) (k : Fin 5),
     let x := s.sec k
     let t := s.timer k
     let b := (s.setSec k { x with sluice := .fault }).setTimer k { t with transfer := { t.transfer with state := .idle } }
     exec (.expiryShut k) s =
       if x.sluice = .shutting ∧ t.transfer.state = .ended then
         s.becomes
           (match x.transfer with
            | none => b.gateFault k .shutFail
            | some r =>
              ((b.unknownBeside k).setSec k
                 { x with
                   sluice := .fault, transfer := none, lastTicks := r.captured.getD 0,
                   fault :=
                     match x.fault with
                     | some f => some { f with repeated := true }
                     | none => some { kind := .shutFail, stamp := s.acct.clock, repeated := r.cause.isSome } }).raise
                (.transferFault k .shutFail))
       else .next s)

/-- SURVEY and SURVEY ALL: refused IN_PROGRESS as a whole while a chamber is in TRANSFER or a sluice of it is not SHUT; else every chamber
takes its state, and the reply carries them (01 R7, R8).
What a survey makes of one chamber: LOW reads EMPTY, HIGH reads FULL, all else UNKNOWN, as does a disagreeing open gate; LEVEL_FAULT
for an INVALID depth or a disagreement that changes the state (01 R6, R8, log 8).
A survey of any chambers: their states, the check made once on the states of the first step (log 9), and the LEVEL_FAULTs of the INVALID
depths raised before those of the check (R8, 11 R193).
What makes a chamber busy; its depth reading and the state that gives (R6, R8); when an open gate disagrees (R8). -/
def Obligations.Survey : Prop :=
  (∀ (b : Block) (c : Fin 4),
     let near (k : Fin 5) : Prop := k.val = c.val ∨ k.val = c.val + 1
     (b.surveyBusy c = true ↔ (b.chamber c).state = .transfer ∨ ∃ k, near k ∧ (b.sec k).sluice ≠ .shut) ∧
     (∀ k, k ∈ gatesOf c ↔ near k) ∧ (c ∈ b.chambersIn ↔ c.val < b.n.val) ∧ b.chambersIn.Pairwise (· < ·) ∧
     (b.gateDisagrees c = true ↔ ∃ k, near k ∧ (b.sec k).gate ≠ .closed ∧ b.gateLevel k = false) ∧
     b.depth c =
       (match b.reading (.lowFloat c), b.reading (.highFloat c) with
        | some true, some false => some .low
        | some false, some false => some .mid
        | some false, some true => some .high
        | some true, some true => some .invalid
        | _, _ => none) ∧
     (b.depth c = some .low → b.surveyState c = .empty) ∧ (b.depth c = some .high → b.surveyState c = .full) ∧
     (b.depth c ≠ some .low → b.depth c ≠ some .high → b.surveyState c = .unknown)) ∧
  (∀ (s : State) (lk : Link) (tag cByte : Byte), s.house lk →
     let surveyed (code : Byte) (cs : List (Fin 4)) :=
       if ∃ c ∈ cs, s.surveyBusy c = true then s.answers lk code tag .inProgress .none s.toBlock
       else
         s.answers lk code tag .done (.chamberStates (cs.map fun c => (c, ((s.surveyed cs).chamber c).state))) (s.surveyed cs)
     ((cByte = 0 ∨ s.n.val < cByte.toNat) → exec (.survey lk tag cByte) s = s.answers lk 0x32 tag .badArgument .none s.toBlock) ∧
     (∀ c : Fin 4, c.val < s.n.val → cByte.toNat = c.val + 1 → exec (.survey lk tag cByte) s = surveyed 0x32 [c]) ∧
     exec (.surveyAll lk tag) s = surveyed 0x33 s.chambersIn) ∧
  (∀ (b : Block) (c : Fin 4),
     let low := b.reading (.lowFloat c)
     let high := b.reading (.highFloat c)
     let first : ChamberState :=
       if low = some true ∧ high = some false then .empty else if low = some false ∧ high = some true then .full else .unknown
     let b1 := b.setChamber c { b.chamber c with state := first }
     let disagrees := ∃ k ∈ gatesOf c, (b.sec k).gate ≠ .closed ∧ b1.gateLevel k = false
     let last : ChamberState := if first ≠ .unknown ∧ disagrees then .unknown else first
     let faulty := (low = some true ∧ high = some true) ∨ (first ≠ .unknown ∧ disagrees)
     let b2 := b.setChamber c { b.chamber c with state := last }
     b.surveyed [c] = if faulty ∧ last ≠ (b.chamber c).state then b2.raise (.levelFault c) else b2) ∧
  (∀ (b b1 : Block) (cs : List (Fin 4)),
     b1 = { b with chambers := Vector.ofFn fun c => if c ∈ cs then { b.chamber c with state := b.surveyState c } else b.chamber c } →
     let known (c : Fin 4) := decide ((b.chamber c).state ≠ .unknown)
     let rejected (c : Fin 4) := decide (b.surveyState c ≠ .unknown) && b1.gateDisagrees c
     let told (first then' : List (Fin 4)) : Block :=
       then'.foldl (fun a c => a.raise (.levelFault c)) (first.foldl (fun a c => a.raise (.levelFault c)) b)
     let b' := b.surveyed cs
     (∀ c ∈ cs, b'.chamber c = { b.chamber c with state := if rejected c then .unknown else b.surveyState c }) ∧
     (∀ c, c ∉ cs → b'.chamber c = b.chamber c) ∧
     b'.notices =
       (told (cs.filter fun c => decide (b.depth c = some .invalid) && known c) (cs.filter fun c => rejected c && known c)).notices ∧
     b' = { b with chambers := b'.chambers, notices := b'.notices })

/-! ## Vessels and passage -/

/-- BOOK: its arguments, its checks in order, the vessel record of the lowest FREE slot, the tail of the rating queue (05 R89, R90; 07
R124). The reservation count of a side: its queue and the BOOKED vessels of its direction (05 R86). -/
def Obligations.Book : Prop :=
  (∀ (b : Block) (side : Side),
    let d : Direction := match side with | .lower => .up | .upper => .down
    d.side = side ∧ (directionArg 0 = some .up ∧ directionArg 1 = some .down) ∧
    b.reservations side =
      (b.queue side).length +
        ((List.finRange 16).filter fun v => decide ((b.vessel v).state = .booked ∧ (b.vessel v).direction = d)).length) ∧
  ∀ (s : State) (lk : Link) (tag : Byte) (registration : W32) (length : W16) (dByte : Byte) (operator : W16) (cls cargo : Byte), s.house lk →
    let answer (o : OutcomeCode) := s.answers lk 0x40 tag o .none s.toBlock
    let run := exec (.book lk tag registration length dByte operator cls cargo) s
    ((registration = 0 ∨ length.toNat < 50 ∨ 1500 < length.toNat ∨ 1 < dByte.toNat ∨ 15 < cls.toNat ∨ 7 < cargo.toNat) →
      run = answer .badArgument) ∧
    (∀ d : Direction, directionArg dByte = some d → registration ≠ 0 → 50 ≤ length.toNat → length.toNat ≤ 1500 → cls.toNat ≤ 15 →
      cargo.toNat ≤ 7 →
      run =
        if ∃ v : Fin 16, (s.vessel v).state ≠ .free ∧ (s.vessel v).registration = registration then answer .duplicateReg
        else if ∀ c ∈ s.chambersIn, (s.config.chambers[c]).usable < length.toNat then answer .tooLong
        else if 8 ≤ s.reservations d.side then answer .queueFull
        else if 4 ≤ s.tariff.queue.length then answer .ratingBusy
        else
          match s.freeSlot with
          | none => answer .tableFull
          | some v =>
            s.answers lk 0x40 tag .done (.slot v)
              ((s.setVessel v
                  { vesselFree with
                    state := .booked, registration := registration, length := length.toNat, direction := d, operator := operator,
                    cls := cls.toNat, cargo := cargo.toNat, booked := s.acct.clock, bookedBy := some lk }).setTariff
                { s.tariff with queue := s.tariff.queue ++ [v] }))

/-- The acceptance of a chamber (05 R88), and which slot a booking takes (05 R90). -/
def Obligations.AcceptanceAndFreeSlot : Prop :=
  (∀ (b : Block) (c : Fin 4) (x : Vessel),
    let cfg := b.config.chambers[c]
    b.acceptance c x =
      if ∃ v ∈ b.list c, (b.vessel v).direction ≠ x.direction then some .wrongDirection
      else if cfg.limit ≤ (b.list c).length then some .noRoom
      else if cfg.usable < ((b.list c).map fun v => (b.vessel v).length).sum + x.length then some .noRoom
      else none) ∧
  (∀ (b : Block) (v : Fin 16), b.freeSlot = some v ↔ (b.vessel v).state = .free ∧ ∀ w : Fin 16, w < v → (b.vessel w).state ≠ .free) ∧
  (∀ b : Block, 1 ≤ b.n → (b.endChamber .lower).val = 0 ∧ (b.endChamber .upper).val + 1 = b.n.val)

/-- CALL and UNCALL at a side's approach (05 R91, R92).
DEFER moves a WAITING vessel to the tail of its queue (05 R93). A side byte above 1, a slot byte above 15, are BAD_ARGUMENT (R91 to R93).
The CALLED vessel of a side, its end section, and the rate hold (05 R84, R86; 02 R27). -/
def Obligations.CallUncallDefer : Prop :=
  (∀ (b : Block) (side : Side) (v : Fin 16),
     (b.called side = some v ↔
       ∃ before after, b.queue side = before ++ v :: after ∧ (b.vessel v).state = .called ∧ ∀ w ∈ before, (b.vessel w).state ≠ .called) ∧
     (b.called side = none ↔ ∀ w ∈ b.queue side, (b.vessel w).state ≠ .called) ∧
     b.endSection side = (match side with | .lower => 0 | .upper => b.n) ∧
     ((b.vessel v).rateHold = true ↔
       (b.vessel v).rateStatus = .failed ∨
         ((b.vessel v).rateStatus = .resolved ∧ ∃ r, (b.vessel v).rate = some r ∧ r.hold = true))) ∧
  (∀ (x : Byte) (side : Side), sideArg x = some side ↔ x.toNat = (match side with | .lower => 0 | .upper => 1)) ∧
  (∀ (s : State) (lk : Link) (tag x : Byte), s.house lk →
     (1 < x.toNat →
       exec (.call lk tag x) s = s.answers lk 0x41 tag .badArgument .none s.toBlock ∧
       exec (.uncall lk tag x) s = s.answers lk 0x42 tag .badArgument .none s.toBlock) ∧
     (15 < x.toNat → exec (.defer lk tag x) s = s.answers lk 0x43 tag .badArgument .none s.toBlock)) ∧
  (∀ (s : State) (lk : Link) (tag sideByte : Byte) (side : Side), s.house lk → sideArg sideByte = some side →
     let answer (o : OutcomeCode) := s.answers lk 0x41 tag o .none s.toBlock
     let holds := (s.sec (s.endSection side)).holder = some lk
     (exec (.call lk tag sideByte) s =
       if s.cond.condition ≠ .service then answer .wrongCondition
       else if ¬ holds then answer .notHolder
       else if s.called side ≠ none then answer .already
       else
         match s.queue side with
         | [] => answer .ratingPending
         | v :: _ =>
           let x := s.vessel v
           if x.rateStatus = .pending then answer .ratingPending
           else if x.officeHold = true ∨ x.rateHold = true then answer .accountHold
           else
             match s.acceptance (s.endChamber side) x with
             | some o => answer o
             | none => s.answers lk 0x41 tag .done .none (s.setVessel v { x with state := .called }).refreshSignals) ∧
     (exec (.uncall lk tag sideByte) s =
       if ¬ holds then s.answers lk 0x42 tag .notHolder .none s.toBlock
       else
         match s.called side with
         | none => s.answers lk 0x42 tag .already .none s.toBlock
         | some v => s.answers lk 0x42 tag .done .none (s.setVessel v { s.vessel v with state := .waiting }).refreshSignals)) ∧
  (∀ (s : State) (lk : Link) (tag vByte : Byte) (v : Fin 16), s.house lk → vByte.toNat = v.val →
     let x := s.vessel v
     let q := s.queue x.direction.side
     let answer (o : OutcomeCode) := s.answers lk 0x43 tag o .none s.toBlock
     exec (.defer lk tag vByte) s =
       match x.state with
       | .free => answer .badArgument
       | .booked => answer .ratingPending
       | .waiting =>
         if q.getLast? = some v then answer .already
         else s.answers lk 0x43 tag .done .none (s.setQueue x.direction.side (q.erase v ++ [v]))
       | _ => answer .inProgress)

/-- ADVANCE of a CALLED vessel into its end chamber: queue, list, admission sequence, stamp, passage fee and dwell meter (05 R94, R95; 08
R144, R149). The meter it takes is the lowest-numbered FREE one (R144). -/
def Obligations.AdvanceAdmits : Prop :=
  (∀ (b : Block) (m : Fin 8), b.freeMeter = some m ↔ (b.meter m).state = .free ∧ ∀ j : Fin 8, j < m → (b.meter j).state ≠ .free) ∧
  ∀ (s : State) (lk : Link) (tag vByte : Byte) (v : Fin 16) (r : Rate) (m : Fin 8), s.house lk → vByte.toNat = v.val →
    let x := s.vessel v
    let side := x.direction.side
    let c := s.endChamber side
    x.state = .called → x.position = .approach side → s.cond.condition = .service → (s.sec (s.endSection side)).holder = some lk →
    (s.sec (s.endSection side)).gate = .opened → x.officeHold = false → x.rateHold = false → x.rateStatus = .resolved → x.rate = some r →
    s.acceptance c x = none → s.freeMeter = some m →
    exec (.advance lk tag vByte) s =
      s.answers lk 0x44 tag .done .none
        ((((s.setQueue side ((s.queue side).erase v)).setList c (s.list c ++ [v])).setCond
            { s.cond with admissions := s.cond.admissions + 1 }).setVessel v
            { x with
              state := .inFlight, position := .chamber c, admission := some (s.cond.admissions + 1), admitted := some s.acct.clock,
              passageFee := passageFee r x.length, meter := some m } |>.setAcct
            { s.acct with meters := s.acct.meters.set m { state := .running, minutes := 0, owner := some v } }).refreshSignals

/-- The gate a vessel crosses and the chamber beyond it, from its position and direction, in a chamber and outside the flight (05 R94).
ADVANCE of a vessel at the head of its chamber's list: on to the next chamber, or out of the flight with its meter STOPPING (05 R96,
R97; 08 R146).
What refuses an ADVANCE, in order; a CLEARED vessel is ALREADY out (05 R94); a slot byte above 15 is BAD_ARGUMENT. -/
def Obligations.AdvanceMovesAndLeaves : Prop :=
  (∀ (s : State) (lk : Link) (tag vByte : Byte), s.house lk → 15 < vByte.toNat →
     exec (.advance lk tag vByte) s = s.answers lk 0x44 tag .badArgument .none s.toBlock) ∧
  (∀ (b : Block) (x : Vessel), (∀ c, x.position ≠ .chamber c) →
     let side : Side := match x.direction with | .up => .lower | .down => .upper
     (b.crossing x).gate = b.endSection side ∧ (b.crossing x).dest = some (b.endChamber side)) ∧
  (∀ (b : Block) (x : Vessel) (c : Fin 4), x.position = .chamber c → c.val < b.n.val →
     (x.direction = .up → (b.crossing x).gate.val = c.val + 1 ∧
       ∀ d : Fin 4, (b.crossing x).dest = some d ↔ (d.val = c.val + 1 ∧ d.val < b.n.val)) ∧
     (x.direction = .down → (b.crossing x).gate.val = c.val ∧ ∀ d : Fin 4, (b.crossing x).dest = some d ↔ d.val + 1 = c.val)) ∧
  (∀ (s : State) (lk : Link) (tag vByte : Byte) (v : Fin 16) (src : Fin 4) (rest : List (Fin 16)), s.house lk → vByte.toNat = v.val →
     let x := s.vessel v
     let way := s.crossing x
     x.state = .inFlight → x.position = .chamber src → s.list src = v :: rest → s.cond.condition = .service →
     (s.sec way.gate).holder = some lk → (s.sec way.gate).gate = .opened →
     (∀ dest, way.dest = some dest → s.acceptance dest x = none →
       exec (.advance lk tag vByte) s =
         s.answers lk 0x44 tag .done .none
           (((s.setList src rest).setList dest (s.list dest ++ [v])).setVessel v { x with position := .chamber dest }).refreshSignals) ∧
     (∀ m, way.dest = none → x.meter = some m →
       exec (.advance lk tag vByte) s =
         s.answers lk 0x44 tag .done .none
           ((((s.setList src rest).setVessel v { x with state := .cleared, position := .none, exited := some s.acct.clock }).setAcct
               { s.acct with meters := s.acct.meters.set m { s.acct.meters[m] with state := .stopping } }).raise
             (.vesselCleared v false)).refreshSignals)) ∧
  (∀ (s : State) (lk : Link) (tag vByte : Byte) (v : Fin 16), s.house lk → vByte.toNat = v.val →
     let x := s.vessel v
     let way := s.crossing x
     let refused (o : OutcomeCode) := exec (.advance lk tag vByte) s = s.answers lk 0x44 tag o .none s.toBlock
     (x.state = .free → refused .badArgument) ∧
     (x.state = .cleared → refused .already) ∧
     (x.state ≠ .free → x.state ≠ .cleared →
       (s.cond.condition ≠ .service → refused .wrongCondition) ∧
       (s.cond.condition = .service →
         ((s.sec way.gate).holder ≠ some lk → refused .notHolder) ∧
         ((s.sec way.gate).holder = some lk →
           ((x.state = .booked ∨ x.state = .waiting ∨ (x.state = .inFlight ∧ ∀ c, x.position = .chamber c → (s.list c).head? ≠ some v)) →
             refused .outOfOrder) ∧
           (x.state = .called → (s.sec way.gate).gate ≠ .opened → refused .inProgress) ∧
           (x.state = .called → (s.sec way.gate).gate = .opened → (x.officeHold = true ∨ x.rateHold = true) → refused .accountHold) ∧
           (x.state = .called → (s.sec way.gate).gate = .opened → x.officeHold = false → x.rateHold = false → x.rateStatus = .resolved →
             (∀ dest o, way.dest = some dest → s.acceptance dest x = some o → refused o) ∧
             ((∀ dest, way.dest = some dest → s.acceptance dest x = none) → s.freeMeter = none → refused .noMeter)) ∧
           (∀ c, x.state = .inFlight → x.position = .chamber c → (s.list c).head? = some v →
             ((s.sec way.gate).gate ≠ .opened → refused .inProgress) ∧
             ((s.sec way.gate).gate = .opened → ∀ dest o, way.dest = some dest → s.acceptance dest x = some o → refused o))))))

/-- WITHDRAW: out of the rating queue and its approach queue, CLEARED with the withdrawn mark, ready for closing and written when there
is room (05 R99, 09 R157, R158).
Leaving the rating queue: the slot goes from it, and if it is the slot of the running walk, a walk in access is abandoned and one that waits
is discarded with the engine IDLE (07 R138). It waits because Link T's access is in progress (R122), so no grant follows; nor does one
while the abandoned access runs.
HOLD and UNHOLD set and clear the office hold; HOLD ends the vessel's call (05 R100). RERATE makes the rate PENDING again (05 R101).
A slot byte above 15 and a FREE slot are BAD_ARGUMENT (05 R99 to R101). -/
def Obligations.WithdrawHoldUnholdRerate : Prop :=
  (∀ (b : Block) (v : Fin 16),
     let t := b.tariff
     let queue := t.queue.erase v
     let own (w : Walk) : Prop := t.engine = .walking ∧ t.walk = some w ∧ w.slot = v
     ((∀ w, ¬ own w) → b.leaveRating v = b.setTariff { t with queue := queue }) ∧
     (∀ w, own w → w.inAccess = false → b.leaveRating v = b.setTariff { t with queue := queue, walk := none, engine := .idle }) ∧
     (∀ w, own w → w.inAccess = true → b.leaveRating v = b.setTariff { t with queue := queue, engine := .abandoning }) ∧
     (∀ w, own w → (w.inAccess = true ∨ ∃ a, t.access = some a ∧ a.inAccess = true) → (b.leaveRating v).regrant = b.leaveRating v)) ∧
  (∀ (s : State) (lk : Link) (tag vByte : Byte),
     (s.house lk → 15 < vByte.toNat → exec (.withdraw lk tag vByte) s = s.answers lk 0x45 tag .badArgument .none s.toBlock) ∧
     (s.office lk → (15 < vByte.toNat ∨ ∃ v : Fin 16, vByte.toNat = v.val ∧ (s.vessel v).state = .free) →
       exec (.hold lk tag vByte) s = s.answers lk 0x46 tag .badArgument .none s.toBlock ∧
       exec (.unhold lk tag vByte) s = s.answers lk 0x47 tag .badArgument .none s.toBlock ∧
       exec (.rerate lk tag vByte) s = s.answers lk 0x48 tag .badArgument .none s.toBlock)) ∧
  (∀ (s : State) (lk : Link) (tag vByte : Byte) (v : Fin 16), s.house lk → vByte.toNat = v.val →
     let x := s.vessel v
     let side := x.direction.side
     let b1 := s.leaveRating v
     let b2 := (b1.setQueue side ((b1.queue side).erase v)).setVessel v { x with state := .cleared, withdrawn := true, position := .none }
     let b3 := (b2.setAcct { s.acct with closing := s.acct.closing ++ [v] }).raise (.vesselCleared v true)
     exec (.withdraw lk tag vByte) s =
       match x.state with
       | .free => s.answers lk 0x45 tag .badArgument .none s.toBlock
       | .inFlight => s.answers lk 0x45 tag .inProgress .none s.toBlock
       | .cleared => s.answers lk 0x45 tag .inProgress .none s.toBlock
       | _ => s.answers lk 0x45 tag .done .none b3.drain.refreshSignals) ∧
  (∀ (s : State) (lk : Link) (tag vByte : Byte) (v : Fin 16), s.office lk → vByte.toNat = v.val → (s.vessel v).state ≠ .free →
     let x := s.vessel v
     (exec (.hold lk tag vByte) s =
       if x.officeHold = true then s.answers lk 0x46 tag .already .none s.toBlock
       else
         s.answers lk 0x46 tag .done .none
           (s.setVessel v { x with officeHold := true, state := if x.state = .called then .waiting else x.state }).refreshSignals) ∧
     (exec (.unhold lk tag vByte) s =
       if x.officeHold = true then s.answers lk 0x47 tag .done .none (s.setVessel v { x with officeHold := false })
       else s.answers lk 0x47 tag .already .none s.toBlock) ∧
     (exec (.rerate lk tag vByte) s =
       if x.state = .booked ∨ x.state = .waiting then
         (if x.rateStatus = .pending then s.answers lk 0x48 tag .already .none s.toBlock
          else if 4 ≤ s.tariff.queue.length then s.answers lk 0x48 tag .ratingBusy .none s.toBlock
          else
            s.answers lk 0x48 tag .done .none
              ((s.setVessel v { x with rateStatus := .pending, rate := none }).setTariff { s.tariff with queue := s.tariff.queue ++ [v] }))
       else s.answers lk 0x48 tag .inProgress .none s.toBlock))

/-! ## Signals -/

/-- The aspect derived in AUTO (06 R108), and the lamp latches of an aspect (06 R106).
After an event an AUTO signal shows its derived aspect, a MANUAL one keeps its own while it is allowed and shows STOP else; an
unchanged aspect makes no latch request, a changed one sets the lamps of its row (06 R106, R107, R109).
Which aspects a MANUAL signal is allowed: STOP always, CLOSED in SETUP and SERVICE, PREPARE and PROCEED in SERVICE with the end gate OPEN and
the RED lamp proven (06 R109, R110).
What a change of aspect does to the signal: each lamp SETTLING for 4 ticks where it becomes lit steadily, as it stood where it stays so, DARK
else; the red one FLASHING in CLOSED, whose first-cycle mark is set and proof mark cleared; nothing else (06 R112, R113).
The requirement that decides an AUTO aspect; of several, the first in this order is the model's choice (log 36). -/
def Obligations.AspectsOfASignal : Prop :=
  (∀ (b : Block) (side : Side),
     b.endGate side = (b.sec (match side with | .lower => 0 | .upper => b.n)).gate ∧
     b.manualAllowed side .stop = true ∧ (b.manualAllowed side .closed = true ↔ b.cond.condition ≠ .stopped) ∧
     (∀ a : Aspect, (a = .prepare ∨ a = .proceed) →
       (b.manualAllowed side a = true ↔
         b.cond.condition = .service ∧ b.endGate side = .opened ∧ (b.signal side).redState = .proven))) ∧
  (∀ (x : Signal) (a : Aspect),
     let y := x.change a
     let steadyRed (a : Aspect) : Prop := a = .stop ∨ a = .prepare
     let steadyGreen (a : Aspect) : Prop := a = .prepare ∨ a = .proceed
     (a = .closed → y.redStage = .flashing ∧ y.redSettle = 0 ∧ y.proof = false ∧ y.firstCycle = true) ∧
     (a ≠ .closed → y.proof = x.proof ∧ y.firstCycle = x.firstCycle) ∧
     (steadyRed a → steadyRed x.aspect → y.redStage = x.redStage ∧ y.redSettle = x.redSettle) ∧
     (steadyRed a → ¬ steadyRed x.aspect → y.redStage = .settling ∧ y.redSettle = 4) ∧
     (a = .proceed → y.redStage = .dark ∧ y.redSettle = 0) ∧
     (steadyGreen a → steadyGreen x.aspect → y.greenStage = x.greenStage ∧ y.greenSettle = x.greenSettle) ∧
     (steadyGreen a → ¬ steadyGreen x.aspect → y.greenStage = .settling ∧ y.greenSettle = 4) ∧
     (¬ steadyGreen a → y.greenStage = .dark ∧ y.greenSettle = 0) ∧
     y.aspect = a ∧ y.mode = x.mode ∧ y.preset = x.preset ∧ y.redState = x.redState ∧ y.greenState = x.greenState) ∧
  ((∀ (b : Block) (side : Side),
     let proceed : Prop :=
       b.endGate side = .opened ∧ b.reading (.band side) = some true ∧ (b.signal side).redState = .proven ∧
       ∃ v, b.called side = some v ∧ b.acceptance (b.endChamber side) (b.vessel v) = none
     (b.derive side).1 =
       match b.cond.condition with
       | .setup => .closed
       | .stopped => .stop
       | .service => if proceed then .proceed else if b.called side ≠ none ∧ b.endGate side = .opening then .prepare else .stop) ∧
   (∀ (b : Block) (side : Side),
     let accepted : Prop := ∃ v, b.called side = some v ∧ b.acceptance (b.endChamber side) (b.vessel v) = none
     (b.derive side).2 =
       if b.cond.condition ≠ .service then .condition
       else if b.called side = none then .noVesselCalled
       else if b.endGate side = .opening then .requirementsMet
       else if b.endGate side ≠ .opened then .gateNotOpen
       else if b.reading (.band side) ≠ some true then .reachOut
       else if (b.signal side).redState ≠ .proven then .redFailed
       else if ¬ accepted then .notAccepting
       else .requirementsMet) ∧
   (∀ on : Bool, Aspect.closed.lamps on = { red := on, green := false } ∧ Aspect.stop.lamps on = { red := true, green := false } ∧
     Aspect.prepare.lamps on = { red := true, green := true } ∧ Aspect.proceed.lamps on = { red := false, green := true })) ∧
  (∀ (b : Block) (side : Side),
     let x := b.signal side
     let due :=
       match x.mode with
       | .auto => (b.derive side).1
       | .manual => if b.manualAllowed side x.aspect then x.aspect else .stop
     let shows (a : Aspect) : Block :=
       if x.aspect = a then b else (b.setSignal side (x.change a)).setLamp side (a.lamps b.flasher.on)
     b.dueAspect side = due ∧ b.refreshSignal side = shows due ∧ (∀ a, b.showAspect side a = shows a) ∧
     (x.aspect = due → b.refreshSignal side = b) ∧
     (x.aspect ≠ due →
       b.refreshSignal side = (b.setSignal side (x.change due)).setLamp side (due.lamps b.flasher.on) ∧ (x.change due).aspect = due) ∧
     b.refreshSignals = (b.refreshSignal .lower).refreshSignal .upper)

/-- SET SIGNAL MODE and SET ASPECT, by the holder of the end section (06 R110, R111).
BAD_ARGUMENT for a side, a mode or an aspect out of its list, then NOT_HOLDER (R110, R111, 13 R203). -/
def Obligations.SignalRequests : Prop :=
  (∀ x : Byte,
     (∀ mode : Mode, modeArg x = some mode ↔ x.toNat = (match mode with | .auto => 0 | .manual => 1)) ∧
     (∀ a : Aspect,
       aspectArg x = some a ↔ x.toNat = (match a with | .closed => 0 | .stop => 1 | .prepare => 2 | .proceed => 3))) ∧
  (∀ (s : State) (lk : Link) (tag sideByte byte : Byte), s.house lk →
     ((1 < sideByte.toNat ∨ 1 < byte.toNat) →
       exec (.setSignalMode lk tag sideByte byte) s = s.answers lk 0x50 tag .badArgument .none s.toBlock) ∧
     ((1 < sideByte.toNat ∨ 3 < byte.toNat) →
       exec (.setAspect lk tag sideByte byte) s = s.answers lk 0x51 tag .badArgument .none s.toBlock) ∧
     (∀ side : Side, sideByte.toNat = (match side with | .lower => 0 | .upper => 1) → (s.sec (s.endSection side)).holder ≠ some lk →
       (byte.toNat ≤ 1 → exec (.setSignalMode lk tag sideByte byte) s = s.answers lk 0x50 tag .notHolder .none s.toBlock) ∧
       (byte.toNat ≤ 3 → exec (.setAspect lk tag sideByte byte) s = s.answers lk 0x51 tag .notHolder .none s.toBlock))) ∧
  ∀ (s : State) (lk : Link) (tag sideByte byte : Byte) (side : Side), s.house lk → sideArg sideByte = some side →
    (s.sec (s.endSection side)).holder = some lk →
    let x := s.signal side
    (∀ mode : Mode, modeArg byte = some mode →
      let b := s.setSignal side { x with mode := mode }
      let shown : Aspect :=
        match mode with
        | .auto => (b.derive side).1
        | .manual => if b.manualAllowed side x.preset then x.preset else .stop
      exec (.setSignalMode lk tag sideByte byte) s =
        if x.mode = mode then s.answers lk 0x50 tag .already .none s.toBlock
        else s.answers lk 0x50 tag .done (.aspect shown) (b.showAspect side shown)) ∧
    (∀ a : Aspect, aspectArg byte = some a →
      let b := s.setSignal side { x with preset := a }
      let answer (o : OutcomeCode) := s.answers lk 0x51 tag o .none s.toBlock
      exec (.setAspect lk tag sideByte byte) s =
        match x.mode with
        | .auto => s.answers lk 0x51 tag .done .none b
        | .manual =>
          if a = .closed ∧ s.cond.condition = .stopped then answer .wrongCondition
          else if (a = .prepare ∨ a = .proceed) ∧ s.cond.condition ≠ .service then answer .wrongCondition
          else if (a = .prepare ∨ a = .proceed) ∧ s.endGate side ≠ .opened then answer .inProgress
          else if (a = .prepare ∨ a = .proceed) ∧ x.redState ≠ .proven then answer .lampFail
          else s.answers lk 0x51 tag .done .none (b.showAspect side a))

/-- A judgement of a lamp: PROVEN without notice, FAILED with LAMP_FAULT when it was PROVEN; and which arrivals judge, by the stage of the
lamp (06 R112, R113).
LAMP_SETTLE_EXPIRY: a SETTLING lamp at 0 becomes WATCHING and is judged on its reading, if it has one (06 R112).
FLASHER_PHASE_CHANGE: the other phase, a new half-period, and both signals offered it (04 R76, 06 R106, R113), the LOWER one first, which is
the model's choice (log 38). -/
def Obligations.LampsAndFlasher : Prop :=
  (∀ (b : Block) (side : Side) (lamp : Lamp),
     let x := b.signal side
     let failed := b.setSignal side (x.setLampState lamp .failed)
     b.judgeLamp side lamp true = b.setSignal side (x.setLampState lamp .proven) ∧
     b.judgeLamp side lamp false = (if x.lampState lamp = .proven then failed.raise (.lampFault side lamp) else failed) ∧
     (∀ proven : Bool,
       (x.stage lamp = .dark → b.provingArrival side lamp proven = b) ∧
       (x.stage lamp = .settling → b.provingArrival side lamp proven = if proven then b.judgeLamp side lamp true else b) ∧
       (x.stage lamp = .watching → b.provingArrival side lamp proven = b.judgeLamp side lamp proven) ∧
       (x.stage lamp = .flashing →
         b.provingArrival side lamp proven =
           (let b' := b.setSignal side { x with proof := true }
            if proven = false then b else if b.flasher.on then b'.judgeLamp side lamp true else b')))) ∧
  (∀ (s : State) (side : Side) (lamp : Lamp),
     let x := s.signal side
     let watching := s.setSignal side (match lamp with | .red => { x with redStage := .watching } | .green => { x with greenStage := .watching })
     exec (.lampSettleExpiry side lamp) s =
       if x.stage lamp = .settling ∧ x.settle lamp = 0 then
         s.becomes
           (match s.reading (lamp.proving side) with
            | some proven => (watching.judgeLamp side lamp proven).refreshSignals
            | none => watching)
       else .next s) ∧
  (∀ s : State,
     let c := s.flasher.channel
     let half := s.config.flashHalf
     let b := s.setFlasher { channel := { c with count := half, reload := half }, on := !s.flasher.on }
     exec .flasherPhaseChange s =
       (if c.state = .running ∧ c.count = 0 then s.becomes ((b.phaseAt .lower).phaseAt .upper).refreshSignals else .next s) ∧
     (∀ side, (s.signal side).aspect ≠ .closed → (s.signal side).redStage ≠ .flashing → s.phaseAt side = s.toBlock) ∧
     (∀ side,
       let x := s.signal side
       x.aspect = .closed →
       (s.flasher.on = false → s.phaseAt side = s.setLamp side { s.lamp side with red := false }) ∧
       (s.flasher.on = true → x.redStage = .flashing →
         s.phaseAt side =
           (let b1 := s.setLamp side { s.lamp side with red := true }
            let b2 := if x.firstCycle then b1.setSignal side { x with firstCycle := false } else b1.judgeLamp side .red x.proof
            b2.setSignal side { b2.signal side with proof := s.reading (.redProving side) == some true }))))

/-! ## Tariff -/

/-- SET ROOT, SET WINDOW and SET FREEZE (07 R121, R123, R134), and what makes a running walk stale (R137; an abandoned walk keeps its mark,
log 37). That SET WINDOW with an enable byte above 1 is BAD_ARGUMENT is the model's reading (log 23).
The flushes: the ways they name become invalid, the use order of the others is kept, and the reply counts them (07 R135). -/
def Obligations.TariffSettings : Prop :=
  (∀ (s : State) (lk : Link) (tag : Byte), s.office lk →
     let t := s.tariff
     (∀ r : W16,
       exec (.setRoot lk tag r) s =
         if 2048 ≤ r.toNat then s.answers lk 0x72 tag .badArgument .none s.toBlock
         else s.answers lk 0x72 tag .done .none (s.setTariff (Tariff.staleWalk { t with root := r.toNat }))) ∧
     (∀ (w : Fin 2) (enable : Bool) (base mask : W16),
       exec (.setWindow lk tag (byteOf w.val) (markByte enable) base mask) s =
         s.answers lk 0x73 tag .done .none
           (s.setTariff { t with windows := t.windows.set w { enable := enable, base := base, mask := mask } })) ∧
     (∀ (w enable : Byte) (base mask : W16), (1 < w.toNat ∨ 1 < enable.toNat) →
       exec (.setWindow lk tag w enable base mask) s = s.answers lk 0x73 tag .badArgument .none s.toBlock) ∧
     (∀ f : Byte,
       exec (.setFreeze lk tag f) s =
         if 1 < f.toNat then s.answers lk 0x74 tag .badArgument .none s.toBlock
         else if t.freeze = decide (f.toNat = 1) then s.answers lk 0x74 tag .already .none s.toBlock
         else s.answers lk 0x74 tag .done .none (s.setTariff { t with freeze := decide (f.toNat = 1) })) ∧
     t.staleWalk = (if t.engine = .walking then { t with walk := t.walk.map fun w => { w with stale := true } } else t)) ∧
  ((∀ (s : State) (lk : Link) (tag : Byte), s.office lk →
     let flushed (code : Byte) (p : CacheEntry → Bool) :=
       s.answers lk code tag .done (.waysFlushed (s.tariff.cache.map (CacheSet.flushCount p)).toList.sum)
         (s.setTariff (Tariff.staleWalk { s.tariff with cache := s.tariff.cache.map (CacheSet.flush p) }))
     exec (.flushAll lk tag) s = flushed 0x75 (fun _ => true) ∧
     exec (.flushNonstanding lk tag) s = flushed 0x76 (fun e => !e.standing) ∧
     (∀ group cls cargo : Byte,
       exec (.flushKey lk tag group cls cargo) s =
         if group.toNat ≤ 15 ∧ cls.toNat ≤ 15 ∧ cargo.toNat ≤ 7 then
           flushed 0x77 (fun e => decide (e.key = { group := group.toNat, cls := cls.toNat, cargo := cargo.toNat }))
         else s.answers lk 0x77 tag .badArgument .none s.toBlock)) ∧
   (∀ (c : CacheSet) (p : CacheEntry → Bool),
      CacheSet.flushCount p c =
        ((List.finRange 4).filter fun w : Fin 4 => match c.ways[w] with | some e => p e | none => false).length) ∧
   (∀ (c : CacheSet) (p : CacheEntry → Bool) (w : Fin 4),
     (CacheSet.flush p c).ways[w] = (match c.ways[w] with | some e => if p e then none else some e | none => none) ∧
     (CacheSet.flush p c).order = c.order.filter (fun w => !(c.ways[w]).any p)))

/-- The store: an entry reads back what was written last to it, no other entry changes, and an entry never written reads 0 (07 R118).
The arbiter of the store, busy while an access is in progress (07 R122).
WRITE TARIFF and READ TARIFF wait for the store, in hand; at its completion the entry takes the value or is returned, and DONE is
queued (07 R119, R120). -/
def Obligations.StoreAccess : Prop :=
  (∀ (store : List (Nat × W64)) (i : Nat) (x : W64), storeWf store = true →
     storeWf (storeWrite store i x) = true ∧ (∀ j, storeRead (storeWrite store i x) j = if j = i then x else storeRead store j) ∧
     storeRead [] i = 0) ∧
  (∀ t : Tariff,
     t.busy = true ↔ (∃ w, t.walk = some w ∧ w.inAccess = true) ∨ (∃ a, t.access = some a ∧ a.inAccess = true)) ∧
  (∀ t : Tariff,
     let walkWaits := t.engine = .walking ∧ ∃ w, t.walk = some w ∧ w.inAccess = false
     let linkWaits := ∃ a, t.access = some a ∧ a.inAccess = false
     let toWalk : Tariff := { t with walk := t.walk.map fun w => { w with inAccess := true }, lastServed := .walk }
     let toLink : Tariff := { t with access := t.access.map fun a => { a with inAccess := true }, lastServed := .link }
     (t.busy = true → t.grant = t) ∧
     (t.busy = false →
       (walkWaits → ¬ linkWaits → t.grant = toWalk) ∧ (¬ walkWaits → linkWaits → t.grant = toLink) ∧
       (walkWaits → linkWaits → t.grant = (if t.lastServed = .walk then toLink else toWalk)) ∧ (¬ walkWaits → ¬ linkWaits → t.grant = t))) ∧
  (∀ (s : State) (tag : Byte) (i : W16) (entry : W64),
     let t := s.tariff
     let r := s.link .t
     let waits (payload : List Byte) (code : Byte) (write : Option W64) :=
       s.becomes
         ((s.setTariff (Tariff.grant { t with access := some { write := write, index := i.toNat, inAccess := false } })).setLink .t
           { r with requests := [.good code tag payload], inHand := true })
     (s.linkReady .t = true →
       exec (.writeTariff .t tag i entry) s =
         (if 2048 ≤ i.toNat then s.answers .t 0x70 tag .badArgument .none s.toBlock else waits (bytesOf16 i ++ bytesOf64 entry) 0x70 (some entry)) ∧
       exec (.readTariff .t tag i) s =
         (if 2048 ≤ i.toNat then s.answers .t 0x71 tag .badArgument .none s.toBlock else waits (bytesOf16 i) 0x71 none)) ∧
     (∀ (a : LinkAccess) (code tag : Byte) (payload : List Byte) (rest : List RequestEntry), t.access = some a → a.inAccess = true →
       r.requests = .good code tag payload :: rest →
       let done (p : Payload) (t' : Tariff) :=
         s.becomes
           ((s.setTariff t'.grant).setLink .t
             { r with
               requests := rest, inHand := false, replies := r.replies ++ [{ code := code, tag := tag, outcome := .done, payload := p }] })
       (∀ x, a.write = some x →
         exec .tariffWriteComplete s = done .none (Tariff.staleWalk { t with store := storeWrite t.store a.index x, access := none }) ∧
         exec .tariffReadComplete s = .next s) ∧
       (a.write = none →
         exec .tariffReadComplete s = done (.bytes (bytesOf64 (storeRead t.store a.index))) { t with access := none } ∧
         exec .tariffWriteComplete s = .next s)) ∧
     ((∀ a, t.access = some a → a.inAccess = false) → exec .tariffWriteComplete s = .next s ∧ exec .tariffReadComplete s = .next s))

/-- RATING_HEAD_TAKEN: a window match and a cache hit deliver at once, the hit way becoming the most recent; a miss starts a walk at the
root table, or fails STORE_RANGE (07 R123 to R125, R132).
The rate of a window match, all 0 and exempt (R130); the set of a key, and the way that holds it (R131, R132).
The delivery of a rate result: the vessel's rate fields, its rating queue entry gone, a BOOKED vessel at the tail of its approach
queue, VESSEL_RATED (05 R85). -/
def Obligations.RatingHeadTaken : Prop :=
  (windowRate =
     { baseFee := 0, perMetre := 0, dwellRate := 0, freeMinutes := 0, surcharge := 0, hold := false, exempt := true, stale := false,
       source := none } ∧
   ∀ (c : CacheSet) (k : Key),
     let holds (w : Fin 4) : Prop := ∃ e, c.ways[w] = some e ∧ e.key = k
     k.set.val = k.cls % 4 ∧ (∀ w : Fin 4, c.find k = some w ↔ (holds w ∧ ∀ u : Fin 4, u < w → ¬ holds u)) ∧
     (c.find k = none ↔ ∀ w : Fin 4, ¬ holds w)) ∧
  (∀ s : State,
     let t := s.tariff
     ((t.engine ≠ .idle ∨ t.queue = []) → exec .ratingHeadTaken s = .next s) ∧
     (∀ (v : Fin 16) (rest : List (Fin 16)), t.engine = .idle → t.queue = v :: rest →
       let x := s.vessel v
       let key : Key := { group := x.operator.toNat / 4096, cls := x.cls, cargo := x.cargo }
       let matched (w : Window) : Prop := w.enable = true ∧ (x.operator ^^^ w.base) &&& ~~~w.mask = 0
       let c := t.cache[key.set]
       ((matched t.windows[0] ∨ matched t.windows[1]) → exec .ratingHeadTaken s = s.becomes (s.deliver v (.ok windowRate))) ∧
       (¬ matched t.windows[0] → ¬ matched t.windows[1] →
         (∀ (w : Fin 4) (e : CacheEntry), c.find key = some w → c.ways[w] = some e →
           exec .ratingHeadTaken s =
             s.becomes
               ((s.setTariff { t with cache := t.cache.set key.set { c with order := w :: c.order.erase w } }).deliver v
                 (.ok
                   { baseFee := e.baseFee, perMetre := e.perMetre, dwellRate := e.dwellRate, freeMinutes := e.freeMinutes,
                     surcharge := e.surcharge, hold := e.hold, exempt := e.exempt, stale := false, source := some e.source }))) ∧
         (c.find key = none →
           let w : Walk :=
             { slot := v, key := key, root := t.root, level := .level1, writeBack := false, index := t.root + key.group, hold := false,
               surcharge := 0, leaf := none, source := none, stale := false, inAccess := false, next := 0 }
           exec .ratingHeadTaken s =
             if 2048 ≤ t.root + key.group then s.becomes (s.walkFails w .storeRange)
             else s.becomes (s.setTariff (Tariff.grant { t with engine := .walking, walk := some w })))))) ∧
  (∀ (b : Block) (v : Fin 16) (result : Except WalkFailure Rate),
     let x := b.vessel v
     let y : Vessel :=
       match result with
       | .ok r => { x with rateStatus := .resolved, rate := some r }
       | .error _ => { x with rateStatus := .failed, rate := none }
     let b1 := b.setTariff { b.tariff with queue := b.tariff.queue.erase v }
     let side := x.direction.side
     let notice : Notice := .vesselRated v (match result with | .ok _ => none | .error c => some c)
     b.deliver v result =
       if x.state = .booked then
         ((b1.setVessel v { y with state := .waiting, position := .approach side }).setQueue side (b.queue side ++ [v])).raise notice
       else (b1.setVessel v y).raise notice)

/-- WALK_ACCESS_COMPLETE at a read: what each kind of entry does at LEVEL1 and LEVEL2, at the LEAF and at the TARGET (07 R126, R127,
R129). That a TABLE fails STORE_RANGE before its used mark is written back is the model's reading (log 15, DEDUCED).
The fields of an entry that the walk reads (13 R204), the wait for the next access, and the store's next grant (07 R122). -/
def Obligations.WalkReads : Prop :=
  (∀ e : W64,
     entryKind e = (match e.toNat / 2 ^ 62 with | 0 => .invalid | 1 => .table | 2 => .rate | _ => .indirect) ∧
     entryIndex e = e.toNat % 2048 ∧ entrySurcharge e = e.toNat / 2 ^ 40 % 256) ∧
  (∀ (b : Block) (w : Walk),
     b.walkOn w = b.setTariff { b.tariff with walk := some { w with inAccess := false } } ∧ b.regrant = b.setTariff b.tariff.grant) ∧
  ∀ (s : State) (w : Walk), s.tariff.engine = .walking → s.tariff.walk = some w → w.inAccess = true → w.writeBack = false →
    let e := storeRead s.tariff.store w.index
    let answer (b : Block) := exec .walkAccessComplete s = s.becomes b.regrant
    let leaf : Block :=
      if e.getLsbD 61 then s.walkSucceeds { w with leaf := some e, source := some w.index } e
      else s.walkOn { w with leaf := some e, source := some w.index, writeBack := true }
    let next := entryIndex e + (match w.level with | .level1 => w.key.cls | _ => w.key.cargo)
    let w1 : Walk := { w with hold := w.hold || e.getLsbD 60, surcharge := min (w.surcharge + entrySurcharge e) 255, next := next }
    ((w.level = .level1 ∨ w.level = .level2) →
      answer
        (match entryKind e with
         | .invalid => s.walkFails w .noTariff
         | .table =>
           if 2048 ≤ next then s.walkFails w .storeRange
           else if e.getLsbD 61 then s.walkOn { w1 with level := if w.level = .level1 then .level2 else .leaf, index := next }
           else s.walkOn { w1 with writeBack := true }
         | _ => s.walkFails w .badTable)) ∧
    (w.level = .leaf →
      answer
        (match entryKind e with
         | .invalid => s.walkFails w .noTariff
         | .table => s.walkFails w .badLeaf
         | .rate => leaf
         | .indirect => s.walkOn { w with level := .target, index := entryIndex e })) ∧
    (w.level = .target →
      answer
        (match entryKind e with
         | .rate => leaf
         | _ => s.walkFails w .badIndirect))

/-- WALK_ACCESS_COMPLETE at a write-back: the used mark, bit 61, set when the entry is still of the kind accepted there (07 R128); then the
leaf's success or the next level; an abandoned walk ends with nothing delivered (R138).
The end of a walk: the record discarded and the engine IDLE; success is cached unless stale or frozen, in the invalid or least recent
way of its set, and delivered (07 R129, R130, R133).
The rate a successful walk delivers and the cache entry it offers, from the leaf by the bits of 13 R204 and from the walk (07 R130, R133). -/
def Obligations.WalkWriteBacksAndEnds : Prop :=
  (∀ (w : Walk) (leaf : W64),
     let field (low width : Nat) : Nat := leaf.toNat / 2 ^ low % 2 ^ width
     w.rate leaf =
       { baseFee := field 43 16, perMetre := field 31 12, dwellRate := field 21 10, freeMinutes := field 13 8, surcharge := w.surcharge,
         hold := w.hold, exempt := leaf.getLsbD 60, stale := w.stale, source := w.source } ∧
     w.cacheEntry leaf =
       { key := w.key, baseFee := field 43 16, perMetre := field 31 12, dwellRate := field 21 10, freeMinutes := field 13 8,
         surcharge := w.surcharge, hold := w.hold, exempt := leaf.getLsbD 60, standing := leaf.getLsbD 59, source := w.source.getD 0 }) ∧
  (∀ b : Block, b.endWalk = b.setTariff { b.tariff with walk := none, engine := .idle }) ∧
  (∀ (s : State) (w : Walk), s.tariff.walk = some w → w.inAccess = true →
     let t := s.tariff
     let e := storeRead t.store w.index
     let accepted : EntryKind := match w.level with | .level1 => .table | .level2 => .table | _ => .rate
     let b := s.setTariff (if entryKind e = accepted then { t with store := storeWrite t.store w.index (e ||| (1#64 <<< 61)) } else t)
     (w.writeBack = true → t.engine = .walking →
       exec .walkAccessComplete s =
         s.becomes
           (match w.leaf with
            | some leaf => b.walkSucceeds w leaf
            | none =>
              b.walkOn
                { w with
                  level := if w.level = WalkLevel.level1 then WalkLevel.level2 else WalkLevel.leaf, writeBack := false,
                  index := w.next }).regrant) ∧
     (t.engine ≠ .walking →
       exec .walkAccessComplete s = s.becomes (if w.writeBack then b else s.toBlock).endWalk.regrant)) ∧
  (∀ (b : Block) (w : Walk) (leaf : W64),
     let t := b.tariff
     let ended (cache : Vector CacheSet 4) := b.setTariff { t with cache := cache, walk := none, engine := .idle }
     (∀ c, b.walkFails w c = (ended t.cache).deliver w.slot (.error c)) ∧
     b.walkSucceeds w leaf =
       (ended
           (if w.stale = true ∨ t.freeze = true then t.cache
            else t.cache.set w.key.set (CacheSet.place t.cache[w.key.set] (w.cacheEntry leaf)))).deliver
         w.slot (.ok (w.rate leaf)) ∧
     (∀ (c : CacheSet) (e : CacheEntry), ∃ v : Fin 4,
       c.place e = { ways := c.ways.set v (some e), order := v :: c.order.erase v } ∧
       ((∀ x : Fin 4, c.ways[x] ≠ none) → ∀ u, c.order.getLast? = some u → v = u) ∧
       ((∃ x : Fin 4, c.ways[x] = none) → c.ways[v] = none ∧ ∀ x : Fin 4, x < v → c.ways[x] ≠ none)))

/-! ## Accounts -/

/-- SET CLOCK, SET LOCKAGE CHARGE and CLEAR WRITE-OFF answer the value held before (08 R142, R152, R154).
RELEASE JOURNAL: BAD_SEQUENCE for a number the journal does not hold; else every record up to it goes and the closing queue is written
into the space (09 R163). -/
def Obligations.AccountRequests : Prop :=
  (∀ (s : State) (lk : Link) (tag : Byte), s.office lk →
     let a := s.acct
     (∀ seconds : W32, exec (.setClock lk tag seconds) s = s.answers lk 0x80 tag .done (.clock a.clock) (s.setAcct { a with clock := seconds })) ∧
     (∀ w : W16,
       exec (.setLockageCharge lk tag w) s = s.answers lk 0x81 tag .done (.money a.charge) (s.setAcct { a with charge := w.toNat })) ∧
     exec (.clearWriteOff lk tag) s = s.answers lk 0x82 tag .done (.money a.writeOff) (s.setAcct { a with writeOff := 0 })) ∧
  (∀ (s : State) (lk : Link) (tag : Byte) (seq : W32), s.office lk →
     ((∀ r ∈ s.acct.journal, r.sequence ≠ seq) →
       exec (.releaseJournal lk tag seq) s = s.answers lk 0x83 tag .badSequence .none s.toBlock) ∧
     (∀ (before after : List AccountRecord) (r : AccountRecord), s.acct.journal = before ++ r :: after → r.sequence = seq →
       (∀ x ∈ before, x.sequence ≠ seq) →
       let b := (s.setAcct { s.acct with journal := after }).drain
       exec (.releaseJournal lk tag seq) s =
         s.answers lk 0x83 tag .done
           (.released (before.length + 1) (b.acct.journal.length - after.length) b.acct.journal.length) b))

/-- FLIGHT_CLOCK_ADVANCE takes a second: the clock by 1, every RUNNING lease down unless the RESET pin is held, and at a whole minute the
minute tick; with no second waiting, nothing (08 R140, R141; 03 R57).
A minute tick at one meter (08 R145, R150): RUNNING counts, STOPPING counts once more and makes its vessel ready. The whole tick takes every
meter in ascending number (R145), and then the closing queue is written into the journal's space (09 R158; log 12). -/
def Obligations.ClockAndMeters : Prop :=
  (∀ b : Block,
     b.minuteTick =
       ((((((((b.minuteAt 0).minuteAt 1).minuteAt 2).minuteAt 3).minuteAt 4).minuteAt 5).minuteAt 6).minuteAt 7).drain) ∧
  (∀ s : State,
     let down (x : LinkRec) : LinkRec :=
       if x.lease.state = .running then { x with lease := { x.lease with counter := x.lease.counter - 1 } } else x
     let ticked := (s.setTick { s.tick with secondDue := false }).setAcct { s.acct with clock := s.acct.clock + 1 }
     let counted := if s.resetHeld then ticked else { ticked with links := { u := down s.links.u, l := down s.links.l, t := down s.links.t } }
     exec .flightClockAdvance s =
       if s.tick.secondDue then s.becomes (if (s.acct.clock + 1).toNat % 60 = 0 then counted.minuteTick else counted) else .next s) ∧
  (∀ (b : Block) (m : Fin 8),
     let x := b.meter m
     let minutes := min (x.minutes + 1) 65535
     let counted (st : MeterState) := b.setAcct { b.acct with meters := b.acct.meters.set m { x with state := st, minutes := minutes } }
     (x.state = .free ∨ x.state = .stopped → b.minuteAt m = b) ∧
     (x.state = .running → b.minuteAt m = counted .running) ∧
     (∀ (v : Fin 16) (r : Rate), x.state = .stopping → x.owner = some v → (b.vessel v).rate = some r →
       b.minuteAt m =
         (b.setVessel v
           { b.vessel v with
             dwellMinutes := minutes, dwellCharge := if r.exempt then 0 else (minutes - r.freeMinutes) * r.dwellRate }).setAcct
           { b.acct with
             meters := b.acct.meters.set m { x with state := .stopped, minutes := minutes }, closing := b.acct.closing ++ [v] }))

/-- The passage fee (08 R149 with its example, R151) and the total (R155).
The lockage charge: "For every lockage, the shares … equal the lockage charge"; each is W divided by their number, the lowest admission
sequence taking the remainder; what a share does to its vessel, and the lockage event over all its occupants (08 R153). -/
def Obligations.FeesAndShares : Prop :=
  ((∀ (r : Rate) (length : Nat),
     passageFee r length =
       if r.exempt then 0 else (r.baseFee + r.perMetre * ((length + 9) / 10)) * (100 + r.surcharge) / 100) ∧
   (∀ r : Rate, r.baseFee = 1200 → r.perMetre = 15 → r.surcharge = 15 → r.exempt = false → passageFee r 735 = 2656) ∧
   (∀ r : Rate, r.baseFee ≤ 65535 → r.perMetre ≤ 4095 → r.surcharge ≤ 255 → ∀ length ≤ 1500, passageFee r length ≤ 2413236) ∧
   (∀ x : Vessel,
      x.total = min (x.passageFee + x.lockageTotal + x.dwellCharge) 4294967295 ∧
      (x.exempt = true ↔ ∃ r, x.rate = some r ∧ r.exempt = true))) ∧
  ((∀ (b : Block) (occupants : List (Fin 16)), occupants ≠ [] → occupants.Nodup →
     (occupants.map (b.shareOf occupants)).sum = b.acct.charge ∧
     ∀ v ∈ occupants,
       b.shareOf occupants v = b.acct.charge / occupants.length ∨
       (b.shareOf occupants v = b.acct.charge / occupants.length + b.acct.charge % occupants.length ∧
         ∀ w ∈ occupants, ((b.vessel v).admission.getD 0).toNat ≤ ((b.vessel w).admission.getD 0).toNat)) ∧
   (∀ (b : Block) (v : Fin 16) (share : Nat),
     let x := b.vessel v
     let count := min (x.lockageCount + 1) 255
     b.giveShare v share =
       if x.exempt then
         (b.setVessel v { x with lockageCount := count }).setAcct { b.acct with writeOff := min (b.acct.writeOff + share) 4294967295 }
       else b.setVessel v { x with lockageCount := count, lockageTotal := min (x.lockageTotal + share) 4294967295 }) ∧
   (∀ (b : Block) (occupants : List (Fin 16)), occupants.Nodup →
     let b' := b.lockageEvent occupants
     let share := b.shareOf occupants
     (∀ v ∈ occupants,
       let x := b.vessel v
       b'.vessel v =
         { x with
           lockageCount := min (x.lockageCount + 1) 255,
           lockageTotal := if x.exempt then x.lockageTotal else min (x.lockageTotal + share v) 4294967295 }) ∧
     (∀ v, v ∉ occupants → b'.vessel v = b.vessel v) ∧
     (b.acct.writeOff ≤ 4294967295 →
       b'.acct =
         { b.acct with
           writeOff := min (b.acct.writeOff + ((occupants.filter fun v => (b.vessel v).exempt).map share).sum) 4294967295 }) ∧
     b' = { b with vessels := b'.vessels, acct := b'.acct }))

/-- The writing of the head of the closing queue: the record, the next number, the notices of R164, the slot FREE, its meter FREE (09 R158);
it goes on while the queue is not empty and the journal has room (R158), after which the closing queue is empty or the journal full.
The account record of a vessel, field by field (09 R159). The argument of JOURNAL_FULL is the model's reading (log 12). -/
def Obligations.ClosingIsWritten : Prop :=
  (∀ (x : Vessel) (n : W32),
    x.account n =
      { sequence := n, registration := x.registration, length := x.length, direction := x.direction, operator := x.operator, cls := x.cls,
        cargo := x.cargo, withdrawn := x.withdrawn, exempt := (match x.rate with | some r => r.exempt | none => false),
        staleRate := (match x.rate with | some r => r.stale | none => false), rateHold := x.rateHold, officeHold := x.officeHold,
        failedRate := decide (x.rateStatus = .failed), booked := x.booked, admitted := x.admitted, exited := x.exited,
        passageFee := x.passageFee, lockageCount := x.lockageCount, lockageTotal := x.lockageTotal, dwellMinutes := x.dwellMinutes,
        dwellCharge := x.dwellCharge, total := x.total }) ∧
  (∀ b : Block,
    b.drain =
      match b.acct.closing with
      | [] => b
      | v :: rest => if b.acct.journal.length < 64 then (b.writeRecord v rest).drain else b) ∧
  (∀ (b : Block) (v : Fin 16) (rest : List (Fin 16)),
    let x := b.vessel v
    let a := { b.acct with journal := b.acct.journal ++ [x.account b.acct.nextSeq], nextSeq := b.acct.nextSeq + 1, closing := rest }
    let count := b.acct.journal.length + 1
    let b1 := b.setAcct a
    let b2 := if count = b.config.threshold then b1.raise (.journalThreshold count b.acct.nextSeq) else b1
    let b3 := (if count = 64 then b2.raise (.journalFull b.acct.nextSeq rest.length) else b2).setVessel v vesselFree
    b.writeRecord v rest =
      match x.meter with
      | none => b3
      | some m => b3.setAcct { a with meters := a.meters.set m { state := .free, minutes := 0, owner := none } }) ∧
  (∀ b : Block, b.acct.journal.length ≤ 64 → b.drain.acct.closing = [] ∨ b.drain.acct.journal.length = 64)

/-! ## Condition, configuration, resets and time -/

/-- OPEN SERVICE, END SERVICE, STOP ALL and RESUME (10 R170 to R172, R175): what passes, with its CONDITION_CHANGE and the signals
brought up to it, and every refusal in its order with the section, chamber or slot it names, the lowest that fails its check (R170); that
END SERVICE names the lowest of one check too, and a CALLED vessel of the lower side first, is the model's reading (log 13, DEDUCED). -/
def Obligations.ServiceRequests : Prop :=
  ∀ (s : State) (lk : Link) (tag : Byte), s.house lk →
    let c := s.cond
    let change (new : Condition) (cause : ConditionCause) : Block :=
      ((s.setCond { c with condition := new, lastCause := cause, causeLink := some lk }).raise
        (.conditionChange new c.condition cause (some lk))).refreshSignals
    let openRefused (o : OutcomeCode) (p : Payload) : Prop := exec (.openService lk tag) s = s.answers lk 0x60 tag o p s.toBlock
    let endRefused (p : Payload) : Prop := exec (.endService lk tag) s = s.answers lk 0x61 tag .inProgress p s.toBlock
    (c.condition = .setup → s.reading .estop = some false →
      (∀ k : Fin 5, k ≤ s.n → (s.sec k).mode = .auto ∧ (s.sec k).fault = none) →
      (∀ ch : Fin 4, ch.val < s.n.val → (s.chamber ch).state = .empty ∨ (s.chamber ch).state = .full) →
      exec (.openService lk tag) s = s.answers lk 0x60 tag .done .none (change .service .openService)) ∧
    (c.condition = .service → exec (.openService lk tag) s = s.answers lk 0x60 tag .already .none s.toBlock) ∧
    ((c.condition = .stopped ∨ (c.condition = .setup ∧ s.reading .estop ≠ some false)) →
      exec (.openService lk tag) s = s.answers lk 0x60 tag .wrongCondition .none s.toBlock) ∧
    (c.condition = .setup → s.reading .estop = some false →
      (∀ k : Fin 5, k ≤ s.n → (s.sec k).mode = .manual → (∀ j, j < k → (s.sec j).mode = .auto) → openRefused .manualActive (.sectionNo k)) ∧
      ((∀ k : Fin 5, k ≤ s.n → (s.sec k).mode = .auto) →
        (∀ k : Fin 5, k ≤ s.n → (s.sec k).fault ≠ none → (∀ j, j < k → (s.sec j).fault = none) → openRefused .faultPending (.sectionNo k)) ∧
        ((∀ k : Fin 5, k ≤ s.n → (s.sec k).fault = none) →
          (∀ ch : Fin 4, ch.val < s.n.val → (s.chamber ch).state = .transfer → (∀ d, d < ch → (s.chamber d).state ≠ .transfer) →
            openRefused .inProgress (.chamberNo ch)) ∧
          ((∀ ch : Fin 4, ch.val < s.n.val → (s.chamber ch).state ≠ .transfer) →
            ∀ ch : Fin 4, ch.val < s.n.val → (s.chamber ch).state = .unknown → (∀ d, d < ch → (s.chamber d).state ≠ .unknown) →
              openRefused .notLevel (.chamberNo ch))))) ∧
    (c.condition = .service →
      (∀ v, s.called .lower = some v → endRefused (.slot v)) ∧
      (∀ v, s.called .lower = none → s.called .upper = some v → endRefused (.slot v)) ∧
      (s.called .lower = none → s.called .upper = none →
        (∀ v : Fin 16, (s.vessel v).state = .inFlight → (∀ w, w < v → (s.vessel w).state ≠ .inFlight) → endRefused (.slot v)) ∧
        ((∀ v : Fin 16, (s.vessel v).state ≠ .inFlight) →
          (∀ k : Fin 5, k ≤ s.n → (s.sec k).moving = true → (∀ j, j < k → (s.sec j).moving = false) → endRefused (.sectionNo k)) ∧
          ((∀ k : Fin 5, k ≤ s.n → (s.sec k).moving = false) →
            (∀ k : Fin 5, k ≤ s.n → (s.sec k).transfer ≠ none → (∀ j, j < k → (s.sec j).transfer = none) → endRefused (.sectionNo k)) ∧
            ((∀ k : Fin 5, k ≤ s.n → (s.sec k).transfer = none) →
              ∀ k : Fin 5, k ≤ s.n → (s.sec k).gate ≠ .closed → (∀ j, j < k → (s.sec j).gate = .closed) → endRefused (.sectionNo k)))))) ∧
    (c.condition = .service → (∀ v : Fin 16, (s.vessel v).state ≠ .called ∧ (s.vessel v).state ≠ .inFlight) →
      (∀ k : Fin 5, k ≤ s.n → (s.sec k).gate = .closed ∧ (s.sec k).transfer = none) →
      exec (.endService lk tag) s = s.answers lk 0x61 tag .done .none (change .setup .endService)) ∧
    (c.condition = .setup → exec (.endService lk tag) s = s.answers lk 0x61 tag .already .none s.toBlock) ∧
    (c.condition = .stopped → exec (.endService lk tag) s = s.answers lk 0x61 tag .wrongCondition .none s.toBlock) ∧
    exec (.stopAll lk tag) s =
      (if c.condition = .stopped then s.answers lk 0x62 tag .already .none s.toBlock
       else s.answers lk 0x62 tag .done .none (s.enterStopped .stopAll (some lk))) ∧
    exec (.resume lk tag) s =
      (if c.condition ≠ .stopped then s.answers lk 0x63 tag .wrongCondition .none s.toBlock
       else if s.reading .estop = some false then s.answers lk 0x63 tag .done .none (change .setup .resume)
       else s.answers lk 0x63 tag .wrongCondition (.estopState s.estopState) s.toBlock)

/-- The entry to STOPPED, by STOP ALL or by an ESTOP arrival (10 R173, R174): the condition with its CONDITION_CHANGE (R169); latches, gates
with their channels, running transfers, and the drawn sluices of MANUAL sections SHUTTING under the shut limit (02 R38, R44; the limit
configured then, log 26); the CALLED vessels WAITING; both signals at STOP (06 R108, R109); and nothing else. -/
def Obligations.EntryToStopped : Prop :=
  (∀ (b : Block) (cause : ConditionCause) (link : Option Link),
    let b' := b.enterStopped cause link
    b'.cond = { b.cond with condition := .stopped, lastCause := cause, causeLink := link } ∧
    b'.drives = Vector.replicate 5 drivesReset ∧
    b'.notices = (b.raise (.conditionChange .stopped b.cond.condition cause link)).notices ∧
    (∀ k : Fin 5,
      let x := b.sec k
      let t := b.timer k
      let limit := (b.config.sections[k]).shutLimit
      let drawn : Prop := x.mode = .manual ∧ (x.sluice = .cracked ∨ x.sluice = .opened)
      let aborted : Prop := ∃ r, x.transfer = some r ∧ r.cause = none ∧ r.phase ≠ .shutWait
      (k ≤ b.n →
        (b'.sec k).gate = (if x.moving then .stopped else x.gate) ∧
        (b'.sec k).transfer =
          x.transfer.map (fun r =>
            { r with cause := some (r.cause.getD .aborted), phase := if r.cause = none then .shutWait else r.phase }) ∧
        ((drawn ∨ aborted) →
          (b'.sec k).sluice = .shutting ∧
          (b'.timer k).transfer = { t.transfer with state := .running, count := limit, reload := limit, dir := .down }) ∧
        (¬ drawn → ¬ aborted → (b'.sec k).sluice = x.sluice ∧ (b'.timer k).transfer = t.transfer) ∧
        b'.sec k = { x with gate := (b'.sec k).gate, transfer := (b'.sec k).transfer, sluice := (b'.sec k).sluice } ∧
        (b'.timer k).stroke = (if x.moving then { t.stroke with state := .idle } else t.stroke) ∧
        (b'.timer k).stall = (if x.moving then { t.stall with state := .idle } else t.stall)) ∧
      (b.n < k → b'.sec k = x ∧ b'.timer k = t)) ∧
    (∀ (side : Side) (v : Fin 16), b.called side = some v → b'.vessel v = { b.vessel v with state := .waiting }) ∧
    (∀ v : Fin 16, (b.vessel v).state ≠ .called → b'.vessel v = b.vessel v) ∧
    (∀ side : Side,
      (b'.signal side).aspect = .stop ∧ (b'.signal side).mode = (b.signal side).mode ∧ (b'.signal side).preset = (b.signal side).preset ∧
      ((b.signal side).aspect ≠ .stop →
        b'.signal side = (b.signal side).change .stop ∧ b'.lamp side = { red := true, green := false }) ∧
      ((b.signal side).aspect = .stop → b'.signal side = b.signal side ∧ b'.lamp side = b.lamp side)) ∧
    b'.tariff = b.tariff ∧ b'.acct = b.acct ∧ b'.lists = b.lists ∧ b'.queues = b.queues ∧ b'.links = b.links ∧ b'.chambers = b.chambers ∧
    b'.config = b.config ∧ b'.quals = b.quals ∧ b'.tick = b.tick ∧ b'.flasher = b.flasher ∧ b'.resetHeld = b.resetHeld) ∧
  (∀ (b : Block) (asserted : Bool),
    b.estopEffect asserted =
      if asserted = true ∧ b.cond.condition ≠ .stopped then (b.raise (.estop true)).enterStopped .estop none
      else b.raise (.estop asserted))

/-- CONFIGURE: whole or not at all, in SETUP only; a refusal names the first item that fails (10 R177; the order of the checks, log 24).
What fails an item, by its parameter: an index or a value out of range (10 R178, 13 R203), or a change that the state refuses (10 R177).
A parameter written reads back, and no other changes; one written with the value it holds changes nothing (R177, R178). All but four write
the configuration set alone; a full stroke brings the position down to it (02 R23), and a lease period loads the counter (03 R55).
A change of N (10 R179): the chambers UNKNOWN with their counters kept and no LEVEL_FAULT; a section of both flights as it was; one taken out
at rest, its claim fields cleared and its channels IDLE (02 R22, 03 R47); one restored as after a reset, with its readings offered: its gate
by its limits (02 R46), its sluice SHUT if its paddle proves it (01 R12), LIMIT_CONFLICT entered where both limits are active, the
GATE_FAULTs in ascending section, which is the model's choice (log 38); both signals at the aspect due to them; and nothing else. -/
def Obligations.Configure : Prop :=
  (∀ (s : State) (lk : Link) (tag : Byte) (items : List ConfigItem), s.house lk →
    ((items = [] ∨ 12 < items.length) → exec (.configure lk tag items) s = s.answers lk 0x64 tag .badArgument .none s.toBlock) ∧
    (1 ≤ items.length → items.length ≤ 12 →
      (s.cond.condition ≠ .setup → exec (.configure lk tag items) s = s.answers lk 0x64 tag .wrongCondition .none s.toBlock) ∧
      (s.cond.condition = .setup → (∀ i ∈ items, s.itemCheck i = none) →
        exec (.configure lk tag items) s = s.answers lk 0x64 tag .done .none (items.foldl Block.applyItem s.toBlock)) ∧
      (∀ (before after : List ConfigItem) (i : ConfigItem) (o : OutcomeCode), s.cond.condition = .setup → items = before ++ i :: after →
        (∀ j ∈ before, s.itemCheck j = none) → s.itemCheck i = some o →
        exec (.configure lk tag items) s = s.answers lk 0x64 tag o (.item (before.length + 1)) s.toBlock))) ∧
  (∀ (b : Block) (p : Parameter) (x : Nat), p.inRange x = true →
    (b.writeParameter p x).parameterValue p = x ∧ ∀ q : Parameter, q ≠ p → (b.writeParameter p x).parameterValue q = b.parameterValue q) ∧
  (∀ (b : Block) (i : ConfigItem),
    let m := i.param.toNat
    let j := i.index.toNat
    let v := i.value.toNat
    let judged (index range busy : Prop) : Prop :=
      (¬ (index ∧ range) → b.itemCheck i = some .badArgument) ∧ (index → range → busy → b.itemCheck i = some .inProgress) ∧
      (index → range → ¬ busy → b.itemCheck i = none)
    let ofSection (range : Prop) : Prop := judged (j ≤ 4) range False
    (m = 0 → judged (j = 0) (1 ≤ v ∧ v ≤ 4)
      (v ≠ b.n.val ∧ ((∃ w : Fin 16, (b.vessel w).state = .inFlight) ∨ ∃ k : Fin 5, (b.sec k).transfer ≠ none))) ∧
    (m = 1 → judged (1 ≤ j ∧ j ≤ 4) (100 ≤ v ∧ v ≤ 2000) (∃ c : Fin 4, c.val + 1 = j ∧ v ≠ (b.config.chambers[c]).usable ∧ b.list c ≠ [])) ∧
    (m = 2 → judged (1 ≤ j ∧ j ≤ 4) (1 ≤ v ∧ v ≤ 3) (∃ c : Fin 4, c.val + 1 = j ∧ v ≠ (b.config.chambers[c]).limit ∧ b.list c ≠ [])) ∧
    (m = 3 → ofSection (16 ≤ v)) ∧ (m = 4 → ofSection (1 ≤ v ∧ v ≤ 255)) ∧ (m = 5 → ofSection (2 ≤ v ∧ v ≤ 255)) ∧
    (m = 6 → ofSection (v ≤ 255)) ∧ (m = 7 → ofSection (10 ≤ v)) ∧ (m = 8 → ofSection True) ∧ (m = 9 → ofSection (5 ≤ v ∧ v ≤ 255)) ∧
    (m = 10 → judged (j = 0) (2 ≤ v ∧ v ≤ 20) False) ∧ (m = 11 → judged (j ≤ 2) (v = 0 ∨ (2 ≤ v ∧ v ≤ 120)) False) ∧
    (m = 12 → judged (j ≤ 2) (v ≤ 1) False) ∧ (m = 13 → judged (j = 0) (1 ≤ v ∧ v ≤ 64) False) ∧
    (13 < m → b.itemCheck i = some .badArgument)) ∧
  ((∀ (b : Block) (i : ConfigItem) (p : Parameter), parameterArg i.param i.index = some p →
      b.applyItem i = if b.parameterValue p = i.value.toNat then b else b.writeParameter p i.value.toNat) ∧
   (∀ (b : Block) (p : Parameter) (x : Nat), p ≠ .chamberCount → (∀ k, p ≠ .fullStroke k) → (∀ lk, p ≠ .leasePeriod lk) →
      (∀ lk, p ≠ .leaseAction lk) → b.writeParameter p x = { b with config := (b.writeParameter p x).config }) ∧
   (∀ (b : Block) (k : Fin 5) (x : Nat),
      let b' := b.writeParameter (.fullStroke k) x
      b' = { b with config := b'.config, sections := b'.sections } ∧ (∀ j, j ≠ k → b'.sec j = b.sec j) ∧
      b'.sec k = { b.sec k with position := (b.sec k).position.map fun p => if x < p then x else p }) ∧
   (∀ (b : Block) (lk : Link) (x : Nat),
      let r := b.link lk
      b.writeParameter (.leasePeriod lk) x =
        b.setLink lk
          { r with
            lease :=
              { r.lease with
                period := x, counter := x,
                state := if r.lease.state = .lapsed then .lapsed else if x = 0 then .off else .running } } ∧
      b.writeParameter (.leaseAction lk) x =
        b.setLink lk { r with lease := { r.lease with action := if x = 0 then .keep else .release } })) ∧
  (∀ (b : Block) (n : Fin 5),
    let b' := b.writeParameter .chamberCount n.val
    let conflict (k : Fin 5) : Bool := b.reading (.openLimit k) == some true && b.reading (.closedLimit k) == some true
    b'.config = { b.config with n := n } ∧
    (∀ c : Fin 4, b'.chamber c = { b.chamber c with state := .unknown }) ∧
    (∀ k : Fin 5,
      let x := b.sec k
      let d := b.drive k
      let t := b.timer k
      let limit := (b.config.sections[k]).shutLimit
      let atRest := b'.sec k = x ∧ b'.drive k = d ∧ b'.timer k = t
      (k ≤ b.n → k ≤ n → atRest) ∧ (b.n < k → n < k → atRest) ∧
      (k ≤ b.n → n < k →
        b'.sec k =
          { x with
            gate := if x.moving then .stopped else x.gate, mode := .auto, fault := none, holder := none, waiter := none, orphan := false } ∧
        b'.drive k =
          { gateOpen := d.gateOpen && !x.moving, gateClose := d.gateClose && !x.moving, paddleCrack := false, paddleFull := false } ∧
        b'.timer k =
          { stroke := { t.stroke with state := .idle }, stall := { t.stall with state := .idle },
            transfer := { t.transfer with state := .idle } }) ∧
      (b.n < k → k ≤ n →
        let way : GateState × Option Nat :=
          match b.reading (.closedLimit k), b.reading (.openLimit k) with
          | some true, some false => (.closed, some 0)
          | some false, some true => (.opened, some (b.config.sections[k]).stroke)
          | _, _ => (.stopped, none)
        let shut := b.reading (.paddle k) = some true
        b'.sec k =
          { sectionReset with
            gate := way.1, position := way.2, sluice := if shut then .shut else .shutting,
            fault := if conflict k then some { kind := .limitConflict, stamp := b.acct.clock, repeated := false } else none } ∧
        b'.drive k = drivesReset ∧
        b'.timer k =
          { stroke := { t.stroke with state := .idle }, stall := { t.stall with state := .idle },
            transfer := { t.transfer with state := if shut then .idle else .running, count := limit, reload := limit, dir := .down } })) ∧
    b'.notices =
      ((sectionsAll.filter fun k => decide (b.n < k ∧ k ≤ n) && conflict k).foldl
        (fun a k => a.raise (.gateFault k .limitConflict)) b).notices ∧
    (∀ side : Side,
      (b'.signal side).aspect = b'.dueAspect side ∧ (b'.signal side).mode = (b.signal side).mode ∧
      (b'.signal side).preset = (b.signal side).preset) ∧
    b' =
      { b with
        config := b'.config, chambers := b'.chambers, sections := b'.sections, drives := b'.drives, timers := b'.timers,
        notices := b'.notices, signals := b'.signals, lamps := b'.lamps })

/-- POWER_ON_RESET gives the power-on values, whatever went before (10 R181). A RESET pin held stays held, its lamp latches reset until the
release (R182; log 28, DEDUCED); else both RED latches are set (06 R117). The tick number and the bytes last shifted out are the model's choice
(log 7).
The records that the resets write, field by field (02 R46, 04 R67, R76, R82, 05 R83, 06 R117, 07 R131, 11 R194). The fields of a FREE slot that
have no absent value (log 22), and those of channel 15 that R76 does not use (log 7), are the model's reading and choice. -/
def Obligations.PowerOnReset : Prop :=
  ((∀ half : Nat,
     flasherStart half =
       { channel := { state := .running, count := half, reload := half, compare := 0, limit := 0, capture := 0, dir := .up }, on := true }) ∧
   sectionReset =
     { holder := none, waiter := none, orphan := false, mode := .auto, gate := .stopped, position := none, travel := .closes,
       sluice := .shutting, transfer := none, lastTicks := 0, fault := none } ∧
   qualifierReset = { state := none, prev := none, raised := none } ∧
   drivesReset = { gateOpen := false, gateClose := false, paddleCrack := false, paddleFull := false } ∧
   lampsRed = { red := true, green := false } ∧ lampsDark = { red := false, green := false } ∧
   cacheSetEmpty = { ways := Vector.replicate 4 none, order := [] } ∧
   signalReset =
     { mode := .auto, aspect := .closed, preset := .stop, redState := .proven, greenState := .proven, redStage := .flashing,
       greenStage := .dark, redSettle := 0, greenSettle := 0, proof := false, firstCycle := true } ∧
   noticePowerOn =
     { levels := Vector.replicate 16 0, urgent0 := { enable := false, kind := 0 }, urgent1 := { enable := false, kind := 0 }, threshold := 1,
       entries := Vector.replicate 16 none } ∧
   vesselFree =
     { state := .free, registration := 0, length := 0, direction := .up, operator := 0, cls := 0, cargo := 0, rateStatus := .pending,
       rate := none, officeHold := false, position := .none, admission := none, meter := none, passageFee := 0, lockageCount := 0,
       lockageTotal := 0, dwellMinutes := 0, dwellCharge := 0, booked := 0, admitted := none, exited := none, bookedBy := none,
       withdrawn := false }) ∧
  (∀ s : State, exec .powerOnReset s = s.becomes (blockPowerOn s.resetHeld)) ∧
  blockPowerOn false = State.reset.toBlock ∧
  (∀ held : Bool,
    let b := blockPowerOn held
    b.resetHeld = held ∧ (∀ side : Side, b.signal side = signalReset ∧ b.lamp side = if held then lampsDark else lampsRed) ∧
    b.tariff =
      { store := [], root := 0, windows := Vector.replicate 2 { enable := false, base := 0, mask := 0 }, freeze := false, queue := [],
        engine := .idle, walk := none, cache := Vector.replicate 4 cacheSetEmpty, lastServed := .link, access := none } ∧
    b.acct =
      { clock := 0, meters := Vector.replicate 8 { state := .free, minutes := 0, owner := none }, charge := 0, writeOff := 0, closing := [],
        journal := [], nextSeq := 1 } ∧
    (∀ lk : Link, b.notice lk = noticePowerOn ∧
      b.link lk =
        { requests := [], inHand := false, replies := [], dropped := false,
          lease := { period := 0, action := .keep, state := .off, counter := 0 }, out := [] }) ∧
    (∀ k : Fin 5, b.sec k = sectionReset ∧
      b.timer k =
        (let idle : Channel :=
          { state := .idle, count := 0, reload := 0, compare := 0, limit := 0, capture := 0, dir := .up }
         { stroke := idle, stall := idle, transfer := { idle with state := .running, count := 100, reload := 100, dir := .down } })) ∧
    (∀ i : Input, b.qual i = qualifierReset) ∧ (∀ v : Fin 16, b.vessel v = vesselFree) ∧ (∀ side : Side, b.queue side = []) ∧
    (∀ c : Fin 4, b.list c = []) ∧ b.flasher = flasherStart 5 ∧ b.tick = { number := 0, secondDue := false } ∧
    b.cond = { condition := .setup, lastCause := .powerOn, causeLink := none, admissions := 0 } ∧ b.n = 4 ∧
    b.config.flashHalf = 5 ∧ b.config.threshold = 48 ∧
    (∀ k : Fin 5,
      b.config.sections[k] =
        { stroke := 1200, margin := 40, stallTicks := 20, crackDelay := 30, transferLimit := 9000, minTransfer := 300, shutLimit := 100 } ∧
      (b.sec k).holder = none ∧ (b.sec k).waiter = none ∧ (b.sec k).orphan = false ∧ (b.sec k).mode = .auto ∧ (b.sec k).gate = .stopped ∧
      (b.sec k).position = none ∧ (b.sec k).sluice = .shutting ∧ (b.sec k).transfer = none ∧ (b.sec k).fault = none ∧
      (b.timer k).transfer.state = .running ∧ (b.timer k).transfer.count = 100 ∧ (b.timer k).transfer.dir = .down ∧
      (b.timer k).stroke.state = .idle ∧ (b.timer k).stall.state = .idle ∧ b.drive k = drivesReset) ∧
    (∀ c : Fin 4, b.config.chambers[c] = { usable := 1100, limit := 2 } ∧ b.chamber c = { state := .unknown, lockages := 0, emptyLockages := 0 }) ∧
    (∀ i : Input, b.reading i = none) ∧ (∀ v : Fin 16, (b.vessel v).state = .free) ∧ b.tariff.store = [] ∧ b.tariff.root = 0 ∧
    b.tariff.lastServed = .link ∧ b.tariff.engine = .idle ∧ b.acct.clock = 0 ∧ b.acct.charge = 0 ∧ b.acct.writeOff = 0 ∧
    b.acct.journal = [] ∧ b.acct.closing = [] ∧ b.acct.nextSeq = 1 ∧ (∀ m : Fin 8, (b.meter m).state = .free) ∧
    (∀ side : Side, (b.signal side).aspect = .closed ∧ (b.signal side).preset = .stop ∧ (b.signal side).mode = .auto) ∧ b.flasher.on = true ∧
    (∀ lk : Link, (b.link lk).requests = [] ∧ (b.link lk).replies = [] ∧ (b.link lk).lease.period = 0 ∧ (b.link lk).lease.action = .keep ∧
      (b.link lk).lease.state = .off ∧ (b.notice lk).threshold = 1 ∧ ∀ k : Fin 16, (b.notice lk).levels[k] = 0 ∧ (b.notice lk).entries[k] = none))

/-- WARM_RESET: what it clears and what it keeps, with the pin held (10 R182); the rating queue holds the vessels entered again in ascending
slot order (05 R104), and a channel keeps the values that a SHUT START does not write (04 R82). RESET_PIN_RELEASE loads the leases and sets both RED latches
(03 R55, 06 R117), and on a pin not held does nothing (log 25). That the sections above N keep their records is the model's reading
(log 16). -/
def Obligations.WarmResetAndRelease : Prop :=
  (∀ s : State, ∃ b, exec .warmReset s = s.becomes b ∧
    b.resetHeld = true ∧ b.cond = { s.cond with condition := .setup, lastCause := .reset, causeLink := none } ∧ b.config = s.config ∧
    b.acct = s.acct ∧ b.lists = s.lists ∧ b.queues = s.queues ∧ b.tick = s.tick ∧
    b.tariff.store = s.tariff.store ∧ b.tariff.root = s.tariff.root ∧ b.tariff.windows = s.tariff.windows ∧ b.tariff.engine = .idle ∧
    b.tariff.walk = none ∧ b.tariff.access = none ∧ b.tariff.freeze = false ∧ b.tariff.lastServed = .link ∧
    (∀ c : Fin 4, b.chamber c = { s.chamber c with state := .unknown }) ∧
    (∀ k : Fin 5, b.drive k = drivesReset ∧ (b.timer k).stroke = { (s.timer k).stroke with state := .idle } ∧
      (b.timer k).stall = { (s.timer k).stall with state := .idle } ∧
      (k ≤ s.n →
        b.sec k = sectionReset ∧ (b.timer k).transfer.state = .running ∧ (b.timer k).transfer.dir = .down ∧
        (b.timer k).transfer.count = (s.config.sections[k]).shutLimit)) ∧
    (∀ k : Fin 5, s.n < k →
      b.sec k = s.sec k ∧ (b.timer k).transfer = { (s.timer k).transfer with state := .idle }) ∧
    b.flasher = flasherStart s.config.flashHalf ∧ b.tariff.cache = Vector.replicate 4 cacheSetEmpty ∧
    b.tariff.queue =
      ((List.finRange 16).filter fun v =>
        decide ((b.vessel v).state = .booked ∨ ((b.vessel v).state = .waiting ∧ (b.vessel v).rateStatus = .pending))) ∧
    (∀ k : Fin 5, k ≤ s.n →
      let limit := (s.config.sections[k]).shutLimit
      (b.timer k).transfer = { (s.timer k).transfer with state := .running, count := limit, reload := limit, dir := .down }) ∧
    (∀ lk : Link,
      let x := (s.link lk).lease
      (b.link lk).out = [] ∧ (b.link lk).lease = { x with counter := x.period, state := if x.period = 0 then .off else .running }) ∧
    (∀ v : Fin 16, v ∈ b.tariff.queue ↔
      ((b.vessel v).state = .booked ∨ ((b.vessel v).state = .waiting ∧ (b.vessel v).rateStatus = .pending))) ∧
    (∀ i : Input, b.qual i = qualifierReset) ∧
    (∀ v : Fin 16, b.vessel v = { s.vessel v with state := if (s.vessel v).state = .called then .waiting else (s.vessel v).state }) ∧
    (∀ side : Side, b.signal side = signalReset ∧ b.lamp side = lampsDark) ∧
    (∀ lk : Link, (b.link lk).requests = [] ∧ (b.link lk).inHand = false ∧ (b.link lk).replies = [] ∧ (b.link lk).dropped = false ∧
      (b.link lk).lease.period = (s.link lk).lease.period ∧ (b.link lk).lease.action = (s.link lk).lease.action ∧
      b.notice lk = noticePowerOn)) ∧
  (∀ s : State,
    let load (x : LinkRec) : LinkRec :=
      { x with lease := { x.lease with counter := x.lease.period, state := if x.lease.period = 0 then .off else .running } }
    exec .resetPinRelease s =
      if s.resetHeld then
        s.becomes
          { s.toBlock with
            links := { u := load s.links.u, l := load s.links.l, t := load s.links.t }, lamps := { lower := lampsRed, upper := lampsRed },
            resetHeld := false }
      else .next s)

/-- MOTION_TICK, no event of an earlier tick standing: the tick number steps, and at 10 hands on a second; unless the RESET pin is held,
every qualifier samples, the arrivals named first are taken, and the channels, the flasher and the settle counts count (04 R63, R65, R72,
R73, R76; 06 R112; log 2).
What a tick does to a stall channel (04 R72) and to a transfer channel (04 R73, R75), and to the settle counts (06 R112).
The events of an earlier tick that stand are taken as their own rows take them, in the model's order (log 2). An arrival taken within a tick
is that of its own row (04 R65, R66). -/
def Obligations.MotionTick : Prop :=
  (∀ s : State,
     let run (s : State) (i : Instr) : State := match exec i s with | .next t => t | _ => s
     let sections : List (Fin 5) := [0, 1, 2, 3, 4]
     let chambers : List (Fin 4) := [0, 1, 2, 3]
     let sides : List Side := [.lower, .upper]
     let arrivals : List Instr :=
       sections.map (.limitArrival · .openLimit) ++ sections.map (.limitArrival · .closedLimit) ++ sections.map .beamArrival ++
       sections.map .headSensorArrival ++ sections.map .paddleShutArrival ++ chambers.map (.floatArrival · .low) ++
       chambers.map (.floatArrival · .high) ++ sides.map .bandArrival ++ sides.map (.lampProvingArrival · .red) ++
       sides.map (.lampProvingArrival · .green) ++ [.estopArrival]
     let channels : List Instr := sections.flatMap fun k => [.zero k, .stallExpiry k, .compare k, .expiryLimit k, .expiryShut k]
     let lamps : List Instr := sides.flatMap fun side => [.lampSettleExpiry side .red, .lampSettleExpiry side .green]
     let rows := arrivals ++ channels ++ [.flasherPhaseChange] ++ lamps ++ [.flightClockAdvance, .leaseExpiry .u, .leaseExpiry .l, .leaseExpiry .t]
     rows.foldl run s = { s with toBlock := s.takeOutstanding }) ∧
  (∀ (b : Block) (i : Input),
     let q := b.qual i
     b.arrival i =
       match q.raised with
       | none => b
       | some v =>
         let taken := b.setQual i { q with state := some v, raised := none }
         if b.offered i then taken.arrivalEffect i q.state v else taken) ∧
  (∀ x : Signal,
     x.settleStep =
       { x with
         redSettle := if x.redStage = .settling then x.redSettle - 1 else x.redSettle,
         greenSettle := if x.greenStage = .settling then x.greenSettle - 1 else x.greenSettle }) ∧
  ((∀ (s : State) (pins : Vector Bool 40) (first : List Input),
     let o := s.takeOutstanding
     let number := if o.tick.number = 10 then 1 else o.tick.number + 1
     let b := o.setTick { number := number, secondDue := o.tick.secondDue || number == 10 }
     exec (.motionTick pins first) s =
       if o.resetHeld then s.becomes b
       else
         let sampled : Block := { b with quals := Vector.ofFn fun i : Fin 40 => Qualifier.sample pins[i] b.quals[i] }
         let c := first.foldl Block.arrival sampled
         s.becomes
           { c with
             timers := c.timers.map (fun t => { t with stall := t.stall.stallTick, transfer := t.transfer.transferTick }),
             flasher := { c.flasher with channel := { c.flasher.channel with count := c.flasher.channel.count - 1 } },
             signals := { lower := c.signals.lower.settleStep, upper := c.signals.upper.settleStep } }) ∧
   (∀ b : Block, (∀ i : Input, (b.qual i).raised = none) →
     (∀ k : Fin 5, (b.timer k).stroke.state ≠ .ended ∧ (b.timer k).stall.state ≠ .ended ∧ (b.timer k).transfer.state = .idle) →
     b.flasher.channel.count ≠ 0 → (∀ side : Side, (b.signal side).redStage ≠ .settling ∧ (b.signal side).greenStage ≠ .settling) →
     b.tick.secondDue = false → (∀ lk : Link, (b.link lk).lease.state ≠ .running) → b.takeOutstanding = b) ∧
   (∀ (q : Qualifier) (x : Bool),
     Qualifier.sample x q = { state := q.state, prev := some x, raised := if q.prev = some x ∧ q.state ≠ some x then some x else none })) ∧
  (∀ ch : Channel,
     (ch.state = .starting → ch.stallTick = { ch with state := .running, count := ch.reload }) ∧
     (ch.state = .running → 2 ≤ ch.count → ch.stallTick = { ch with count := ch.count - 1 }) ∧
     (ch.state = .running → ch.count ≤ 1 → ch.stallTick = { ch with state := .ended, count := 0 }) ∧
     ((ch.state = .idle ∨ ch.state = .ended) → ch.stallTick = ch ∧ ch.transferTick = ch) ∧
     (ch.state = .starting → ch.limit ≠ 0 → ch.transferTick = { ch with state := .running, count := 0 }) ∧
     (ch.state = .running → ch.dir = .up → ch.count + 1 ≠ ch.limit → ch.transferTick = { ch with count := ch.count + 1 }) ∧
     (ch.state = .running → ch.dir = .up → ch.count + 1 = ch.limit → ch.transferTick = { ch with count := ch.reload, dir := .down }) ∧
     (ch.state = .running → ch.dir = .down → 2 ≤ ch.count → ch.transferTick = { ch with count := ch.count - 1 }) ∧
     (ch.state = .running → ch.dir = .down → ch.count ≤ 1 → ch.transferTick = { ch with state := .ended, count := 0 }))

/-- The twelve reads answer DONE with what their rules name and change nothing but the reply queue (02 R25; 04 R81; 05 R103; 06 R116; 07
R136, R138; 08 R148, R154; 09 R162; 10 R180). Of several requirements that keep a signal at STOP, which READ SIGNAL reports is the model's choice
(log 36); that the index of CONFIG GENERAL is ignored is the model's reading (log 14).
An argument out of its range is BAD_ARGUMENT: a chamber 0 or above N, a channel or a slot above 15, a side above 1, a cache set above 3, a
config part above 2, and an index that the part does not have (13 R203).
What the payloads of several are: a vessel's row of READ QUEUE and the BOOKED vessels it counts (05 R103), a band state (01 R4), a lease row and the
ESTOP state of READ CONFIG (10 R173, R180), the 48 bytes of READ JOURNAL (13 R205). -/
def Obligations.Reads : Prop :=
  (∀ (b : Block) (side : Side) (v : Fin 16) (lk : Link),
    let x := b.vessel v
    let l := (b.link lk).lease
    b.queueRow v = (v, x.state, x.length, x.rateStatus, x.officeHold, x.rateHold) ∧
    b.bookedCount side.direction =
      ((List.finRange 16).filter fun v =>
        decide ((b.vessel v).state = .booked ∧ (b.vessel v).direction = (match side with | .lower => .up | .upper => .down))).length ∧
    (b.inBand side = true ↔ b.reading (.band side) = some true) ∧
    (b.tariff.linkWaits = true ↔ ∃ a, b.tariff.access = some a ∧ a.inAccess = false) ∧ b.leaseRow lk = (lk, l.period, l.action, l.state) ∧
    b.estopState = (match b.reading .estop with | none => .noReading | some true => .asserted | some false => .released)) ∧
  (∀ (b : Block) (r : Option AccountRecord),
    let a := b.acct
    let mark (weight : Nat) (x : Bool) : Nat := if x then weight else 0
    let oldest := match a.journal with | r :: _ => r.sequence | [] => a.nextSeq
    let record (r : AccountRecord) : List Byte :=
      bytesOf32 r.registration ++ bytesOf16 r.operator ++ [byteOf (r.cls * 16 + mark 8 (r.direction == .down) + r.cargo)] ++
      bytesOf16
        (BitVec.ofNat 16
          (r.length + mark 2048 r.withdrawn + mark 4096 r.exempt + mark 8192 r.staleRate + mark 16384 r.rateHold + mark 32768 r.failedRate)) ++
      bytesOf32 r.booked ++ bytesOf32 (r.admitted.getD 0) ++ bytesOf32 (r.exited.getD 0) ++
      (bytesOf32 (BitVec.ofNat 32 (r.passageFee + mark 8388608 r.officeHold))).drop 1 ++ [byteOf r.lockageCount] ++
      bytesOf16 (BitVec.ofNat 16 r.dwellMinutes) ++ [0] ++ bytesOf32 (BitVec.ofNat 32 r.lockageTotal) ++
      bytesOf32 (BitVec.ofNat 32 r.dwellCharge) ++ bytesOf32 (BitVec.ofNat 32 r.total)
    b.journalPayload r =
      bytesOf32 oldest ++ (match r with | some r => record r | none => List.replicate 40 0) ++
      [byteOf a.journal.length, byteOf b.config.threshold, byteOf a.closing.length,
       match a.closing with | v :: _ => byteOf v.val | [] => 0xFF] ∧
    (b.journalPayload r).length = 48) ∧
  (∀ (s : State) (lk : Link) (tag x y : Byte), s.linkReady lk = true →
    let refused (code : Byte) := s.answers lk code tag .badArgument .none s.toBlock
    ((x = 0 ∨ s.n.val < x.toNat) → exec (.readChamber lk tag x) s = refused 0x91) ∧
    (15 < x.toNat → exec (.readChannel lk tag x) s = refused 0x92 ∧ exec (.readVessel lk tag x) s = refused 0x93) ∧
    (1 < x.toNat → exec (.readQueue lk tag x) s = refused 0x94 ∧ exec (.readSignal lk tag x) s = refused 0x95) ∧
    (3 < x.toNat → exec (.readRateCache lk tag x) s = refused 0x96) ∧
    (2 < x.toNat → exec (.readConfig lk tag x y) s = refused 0x9B) ∧
    ((y = 0 ∨ 4 < y.toNat) → exec (.readConfig lk tag 1 y) s = refused 0x9B) ∧
    (4 < y.toNat → exec (.readConfig lk tag 2 y) s = refused 0x9B)) ∧
  ∀ (s : State) (lk : Link) (tag : Byte), s.linkReady lk = true →
    let done (code : Byte) (p : Payload) := s.answers lk code tag .done p s.toBlock
    (∀ k : Fin 5, k ≤ s.n →
      exec (.readSection lk tag (byteOf k.val)) s =
        done 0x90
          (.sectionRec (s.sec k) (s.reading (.openLimit k)) (s.reading (.closedLimit k)) (s.reading (.beam k)) (s.reading (.head k))
            (s.reading (.paddle k)))) ∧
    (∀ c : Fin 4, c.val < s.n.val →
      exec (.readChamber lk tag (byteOf (c.val + 1))) s =
        done 0x91
          (.chamberRec (s.chamber c).state (s.depth c) (s.chamber c).lockages (s.chamber c).emptyLockages (s.inBand .lower) (s.inBand .upper)
            ((gatesOf c).map fun k => (k, (s.sec k).sluice, (s.sec k).lastTicks, (s.sec k).transfer))
            ((s.list c).map fun v => (v, (s.vessel v).direction, (s.vessel v).length)) (s.list c).length
            ((s.list c).map fun v => (s.vessel v).length).sum s.config.chambers[c])) ∧
    (∀ k : Fin 5,
      exec (.readChannel lk tag (byteOf (3 * k.val))) s = done 0x92 (.channel (3 * k.val) (s.timer k).stroke (s.drive k)) ∧
      exec (.readChannel lk tag (byteOf (3 * k.val + 1))) s = done 0x92 (.channel (3 * k.val + 1) (s.timer k).stall (s.drive k)) ∧
      exec (.readChannel lk tag (byteOf (3 * k.val + 2))) s = done 0x92 (.channel (3 * k.val + 2) (s.timer k).transfer (s.drive k))) ∧
    exec (.readChannel lk tag 15) s =
      done 0x92 (.flasher s.flasher.channel s.flasher.on (s.lamp .lower) (s.lamp .upper) s.tick.number) ∧
    (∀ v : Fin 16,
      exec (.readVessel lk tag (byteOf v.val)) s = done 0x93 (if (s.vessel v).state = .free then .freeSlot else .vessel (s.vessel v))) ∧
    (∀ side : Side,
      exec (.readQueue lk tag (byteOf side.number)) s =
        done 0x94 (.queue ((s.queue side).map s.queueRow) (s.bookedCount side.direction) (s.reservations side))) ∧
    (∀ side : Side,
      exec (.readSignal lk tag (byteOf side.number)) s =
        done 0x95
          (.signal (s.signal side) (s.lamp side) (s.reading (.redProving side)) (s.reading (.greenProving side)) s.flasher.on
            (if (s.signal side).mode = .auto then some (s.derive side).2 else none))) ∧
    (∀ i : Fin 4, exec (.readRateCache lk tag (byteOf i.val)) s = done 0x96 (.rateCache s.tariff.cache[i] s.tariff.freeze)) ∧
    exec (.readRatingState lk tag) s =
      done 0x97
        (.ratingState s.tariff.queue s.tariff.engine (s.tariff.walk.map fun w => { w with leaf := none, next := 0 }) s.tariff.root
          s.tariff.windows s.tariff.freeze s.tariff.lastServed s.tariff.linkWaits) ∧
    exec (.readMeters lk tag) s = done 0x98 (.meters s.acct.clock s.acct.meters) ∧
    exec (.readWriteOff lk tag) s = done 0x99 (.writeOff s.acct.writeOff s.acct.charge) ∧
    exec (.readJournal lk tag none) s = done 0x9A (.bytes (s.journalPayload s.acct.journal.head?)) ∧
    (∀ (seq : W32) (before after : List AccountRecord) (r : AccountRecord), s.acct.journal = before ++ r :: after → r.sequence = seq →
      (∀ x ∈ before, x.sequence ≠ seq) → exec (.readJournal lk tag (some seq)) s = done 0x9A (.bytes (s.journalPayload (some r)))) ∧
    (∀ seq : W32, (∀ x ∈ s.acct.journal, x.sequence ≠ seq) →
      exec (.readJournal lk tag (some seq)) s = s.answers lk 0x9A tag .badSequence .none s.toBlock) ∧
    (∀ index : Byte,
      exec (.readConfig lk tag 0 index) s =
        done 0x9B (.configGeneral s.n s.config.flashHalf s.config.threshold (Link.all.map s.leaseRow) s.cond s.estopState)) ∧
    (∀ c : Fin 4, exec (.readConfig lk tag 1 (byteOf (c.val + 1))) s = done 0x9B (.configChamber s.config.chambers[c])) ∧
    (∀ k : Fin 5, exec (.readConfig lk tag 2 (byteOf k.val)) s = done 0x9B (.configSection s.config.sections[k]))

/-! ## Invariants -/

/-- Every step keeps the claim fields legal (03 R47) and the two gate latches apart (04 R78). -/
def Obligations.SectionsStaySafe : Prop :=
  ∀ s s' : State, step s = .next s' →
    (s.claimsLegal = true → s'.claimsLegal = true) ∧ (s.latchesLegal = true → s'.latchesLegal = true)

/-- Every step keeps the tariff store in its canonical form, its indices inside the 2048 entries, and one access at a time (07 R118,
R122). -/
def Obligations.StoreStaysLegal : Prop :=
  ∀ s s' : State, step s = .next s' → s.tariff.legal = true → s'.tariff.legal = true

/-- Every step keeps the journal a run of consecutive numbers of 64 records at most, the closing queue empty unless it is full, and the
write-off total within its limit (09 R158, R161; 08 R155). -/
def Obligations.JournalStaysLegal : Prop :=
  ∀ s s' : State, step s = .next s' → s.acct.legal = true → s'.acct.legal = true

/-- Every step keeps the link queues within their depths with room for the reply to the request in hand (11 R183, R188).
Every step keeps every parameter in its range (10 R178). -/
def Obligations.LinksAndConfigurationStayLegal : Prop :=
  (∀ s s' : State, step s = .next s' → s.linksLegal = true → s'.linksLegal = true) ∧
  (∀ s s' : State, step s = .next s' → s.configLegal = true → s'.configLegal = true)

/-- The machine after reset is in every one of these safe states, with no command waiting. -/
def Obligations.ResetIsSafe : Prop :=
  State.reset.claimsLegal = true ∧ State.reset.latchesLegal = true ∧ State.reset.tariff.legal = true ∧ State.reset.acct.legal = true ∧
  State.reset.linksLegal = true ∧ State.reset.configLegal = true ∧ State.reset.pending = []
end

