-- ==== Sys2Proof/Laws/Flight.lean ====
section
/-! SUPPORT. Which sections and chambers lie near a section, as ranges of numbers, and a run of rows as a run of their operations: a prover
cites these in place of the lists and of `exec`. -/
namespace Sys2Proof

/-- The sections near section `k`: k−1, k and k+1, wherever they exist. -/
theorem Block.mem_nearSections {b : Block} {k j : Fin 5} :
    j ∈ b.nearSections k ↔ j ≤ b.n ∧ (j = k ∨ j.val + 1 = k.val ∨ j.val = k.val + 1) := by
  have hj : j ∈ sectionsAll := by revert j; decide
  simp only [Block.nearSections, Block.secsIn, List.mem_filter, decide_eq_true_eq, Fin.ext_iff]
  exact ⟨fun h => ⟨h.1.2, h.2⟩, fun h => ⟨⟨hj, h.1⟩, h.2⟩⟩

/-- The gates of chamber `c`: those of sections c and c+1 by index. -/
theorem mem_gatesOf {c : Fin 4} {k : Fin 5} : k ∈ gatesOf c ↔ k.val = c.val ∨ k.val = c.val + 1 := by
  revert c k; decide

open Machine

/-- Rows that are each an operation of the part act, one after the other, as their operations do. -/
theorem foldl_rows {rows : List Instr} {ops : List (Block → Block)} (run : State → Instr → State)
    (hrun : ∀ s i t, exec i s = .next t → run s i = t) (h : List.Forall₂ (fun i f => ∀ s : State, exec i s = s.act f) rows ops) :
    ∀ s : State, rows.foldl run s = { s with toBlock := ops.foldl (fun b f => f b) s.toBlock } := by
  induction h with
  | nil => intro s; rfl
  | cons h _ ih => intro s; rw [List.foldl_cons, ih, hrun _ _ _ (h s)]; rfl

end Sys2Proof
end

