-- ==== Sys2Proof/Laws/Frames.lean ====
section
/-! SUPPORT. The bytes that the fields of a request are read from (13, opening; R203), said once: a prover who takes a frame apart cites
these in place of the bits. -/
namespace Sys2Proof

theorem getLsbD_word16 (b1 b0 : Byte) (i : Nat) : (word16 b1 b0).getLsbD i = if i < 8 then b0.getLsbD i else b1.getLsbD (i - 8) := by
  simpa [word16] using BitVec.getLsbD_append (x := b1) (y := b0) (i := i)

theorem getLsbD_word32 (b3 b2 b1 b0 : Byte) (i : Nat) :
    (word32 b3 b2 b1 b0).getLsbD i = if i < 16 then (word16 b1 b0).getLsbD i else (word16 b3 b2).getLsbD (i - 16) := by
  simpa [word32] using BitVec.getLsbD_append (x := word16 b3 b2) (y := word16 b1 b0) (i := i)

theorem getLsbD_word64 (b7 b6 b5 b4 b3 b2 b1 b0 : Byte) (i : Nat) :
    (word64 b7 b6 b5 b4 b3 b2 b1 b0).getLsbD i =
      if i < 32 then (word32 b3 b2 b1 b0).getLsbD i else (word32 b7 b6 b5 b4).getLsbD (i - 32) := by
  simpa [word64] using BitVec.getLsbD_append (x := word32 b7 b6 b5 b4) (y := word32 b3 b2 b1 b0) (i := i)

/-- The bytes of a 16-bit field are those it was made of. -/
theorem bytesOf16_word16 (b1 b0 : Byte) : bytesOf16 (word16 b1 b0) = [b1, b0] := by
  simp only [bytesOf16, List.cons.injEq, and_true]
  refine ⟨?_, ?_⟩ <;>
    (apply BitVec.eq_of_getLsbD_eq; intro i hi
     simp only [BitVec.getLsbD_extractLsb', getLsbD_word16, hi, decide_true, Bool.true_and]
     split_ifs <;> first | omega | (congr 1; omega))

/-- The bytes of a 32-bit field are those it was made of. -/
theorem bytesOf32_word32 (b3 b2 b1 b0 : Byte) : bytesOf32 (word32 b3 b2 b1 b0) = [b3, b2, b1, b0] := by
  simp only [bytesOf32, List.cons.injEq, and_true]
  refine ⟨?_, ?_, ?_, ?_⟩ <;>
    (apply BitVec.eq_of_getLsbD_eq; intro i hi
     simp only [BitVec.getLsbD_extractLsb', getLsbD_word32, getLsbD_word16, hi, decide_true, Bool.true_and]
     split_ifs <;> first | omega | (congr 1; omega))

/-- The bytes of a store entry are those it was made of. -/
theorem bytesOf64_word64 (b7 b6 b5 b4 b3 b2 b1 b0 : Byte) :
    bytesOf64 (word64 b7 b6 b5 b4 b3 b2 b1 b0) = [b7, b6, b5, b4, b3, b2, b1, b0] := by
  simp only [bytesOf64, List.cons.injEq, and_true]
  refine ⟨?_, ?_, ?_, ?_, ?_, ?_, ?_, ?_⟩ <;>
    (apply BitVec.eq_of_getLsbD_eq; intro i hi
     simp only [BitVec.getLsbD_extractLsb', getLsbD_word64, getLsbD_word32, getLsbD_word16, hi, decide_true, Bool.true_and]
     split_ifs <;> first | omega | (congr 1; omega))

/-- The items that bytes give lay out those bytes. -/
theorem itemsOf_eq_some : ∀ (p : List Byte) (items : List ConfigItem), itemsOf p = some items →
    items.flatMap Machine.itemBytes = p ∧ p.length = 4 * items.length
  | [], _, h => by simp only [itemsOf, Option.some.injEq] at h; subst h; exact ⟨rfl, rfl⟩
  | [_], _, h | [_, _], _, h | [_, _, _], _, h => by simp [itemsOf] at h
  | _ :: _ :: _ :: _ :: rest, _, h => by
    simp only [itemsOf, Option.map_eq_some_iff] at h
    obtain ⟨items, h, rfl⟩ := h
    obtain ⟨h1, h2⟩ := itemsOf_eq_some rest items h
    refine ⟨by simp [h1, Machine.itemBytes, bytesOf16_word16], ?_⟩
    simp only [List.length_cons, h2]; omega

/-- The pairs that bytes give lay out those bytes. -/
theorem pairsOf_eq_some : ∀ (p : List Byte) (pairs : List (Byte × Byte)), pairsOf p = some pairs →
    pairs.flatMap (fun x => [x.1, x.2]) = p ∧ p.length = 2 * pairs.length
  | [], _, h => by simp only [pairsOf, Option.some.injEq] at h; subst h; exact ⟨rfl, rfl⟩
  | [_], _, h => by simp [pairsOf] at h
  | _ :: _ :: rest, _, h => by
    simp only [pairsOf, Option.map_eq_some_iff] at h
    obtain ⟨pairs, h, rfl⟩ := h
    obtain ⟨h1, h2⟩ := pairsOf_eq_some rest pairs h
    refine ⟨by simp [h1], ?_⟩
    simp only [List.length_cons, h2]; omega

/-- A CONFIGURE payload gives 1 to 12 items, and they lay it out. -/
theorem configItems_eq_some {p : List Byte} {items : List ConfigItem} (h : configItems p = some items) :
    items.flatMap Machine.itemBytes = p ∧ 1 ≤ items.length ∧ items.length ≤ 12 := by
  unfold configItems at h
  split at h
  · cases h
  · rename_i hp
    obtain ⟨h1, h2⟩ := itemsOf_eq_some _ _ h
    have h3 : p.length ≠ 0 := fun h0 => hp (Or.inl (List.length_eq_zero_iff.mp h0))
    exact ⟨h1, by omega, by omega⟩

/-- A SET NOTICE LEVEL payload gives 1 to 16 pairs, and they lay it out. -/
theorem levelPairs_eq_some {p : List Byte} {pairs : List (Byte × Byte)} (h : levelPairs p = some pairs) :
    pairs.flatMap (fun x => [x.1, x.2]) = p ∧ 1 ≤ pairs.length ∧ pairs.length ≤ 16 := by
  unfold levelPairs at h
  split at h
  · cases h
  · rename_i hp
    obtain ⟨h1, h2⟩ := pairsOf_eq_some _ _ h
    have h3 : p.length ≠ 0 := fun h0 => hp (Or.inl (List.length_eq_zero_iff.mp h0))
    exact ⟨h1, by omega, by omega⟩

end Sys2Proof
end

