-- ==== Sys2Proof/Laws/State.lean ====
section
/-! SUPPORT. One lemma per field and per reader for each update: what it leaves as it was, and what it writes. -/
namespace Sys2Proof
variable (b : Block)

/-! ### setLink -/
@[simp] theorem Block.setLink_notices (lk) (x) : (b.setLink lk x).notices = b.notices := rfl
@[simp] theorem Block.setLink_cond (lk) (x) : (b.setLink lk x).cond = b.cond := rfl
@[simp] theorem Block.setLink_config (lk) (x) : (b.setLink lk x).config = b.config := rfl
@[simp] theorem Block.setLink_resetHeld (lk) (x) : (b.setLink lk x).resetHeld = b.resetHeld := rfl
@[simp] theorem Block.setLink_chambers (lk) (x) : (b.setLink lk x).chambers = b.chambers := rfl
@[simp] theorem Block.setLink_sections (lk) (x) : (b.setLink lk x).sections = b.sections := rfl
@[simp] theorem Block.setLink_tick (lk) (x) : (b.setLink lk x).tick = b.tick := rfl
@[simp] theorem Block.setLink_quals (lk) (x) : (b.setLink lk x).quals = b.quals := rfl
@[simp] theorem Block.setLink_timers (lk) (x) : (b.setLink lk x).timers = b.timers := rfl
@[simp] theorem Block.setLink_flasher (lk) (x) : (b.setLink lk x).flasher = b.flasher := rfl
@[simp] theorem Block.setLink_drives (lk) (x) : (b.setLink lk x).drives = b.drives := rfl
@[simp] theorem Block.setLink_lamps (lk) (x) : (b.setLink lk x).lamps = b.lamps := rfl
@[simp] theorem Block.setLink_vessels (lk) (x) : (b.setLink lk x).vessels = b.vessels := rfl
@[simp] theorem Block.setLink_queues (lk) (x) : (b.setLink lk x).queues = b.queues := rfl
@[simp] theorem Block.setLink_lists (lk) (x) : (b.setLink lk x).lists = b.lists := rfl
@[simp] theorem Block.setLink_signals (lk) (x) : (b.setLink lk x).signals = b.signals := rfl
@[simp] theorem Block.setLink_tariff (lk) (x) : (b.setLink lk x).tariff = b.tariff := rfl
@[simp] theorem Block.setLink_acct (lk) (x) : (b.setLink lk x).acct = b.acct := rfl
@[simp] theorem Block.setLink_get_notice (lk) (x) (lk' : Link) : (b.setLink lk x).notice lk' = b.notice lk' := rfl
@[simp] theorem Block.setLink_get_chamber (lk) (x) (c' : Fin 4) : (b.setLink lk x).chamber c' = b.chamber c' := rfl
@[simp] theorem Block.setLink_get_sec (lk) (x) (k' : Fin 5) : (b.setLink lk x).sec k' = b.sec k' := rfl
@[simp] theorem Block.setLink_get_timer (lk) (x) (k' : Fin 5) : (b.setLink lk x).timer k' = b.timer k' := rfl
@[simp] theorem Block.setLink_get_drive (lk) (x) (k' : Fin 5) : (b.setLink lk x).drive k' = b.drive k' := rfl
@[simp] theorem Block.setLink_get_lamp (lk) (x) (side' : Side) : (b.setLink lk x).lamp side' = b.lamp side' := rfl
@[simp] theorem Block.setLink_get_vessel (lk) (x) (v' : Fin 16) : (b.setLink lk x).vessel v' = b.vessel v' := rfl
@[simp] theorem Block.setLink_get_queue (lk) (x) (side' : Side) : (b.setLink lk x).queue side' = b.queue side' := rfl
@[simp] theorem Block.setLink_get_list (lk) (x) (c' : Fin 4) : (b.setLink lk x).list c' = b.list c' := rfl
@[simp] theorem Block.setLink_get_signal (lk) (x) (side' : Side) : (b.setLink lk x).signal side' = b.signal side' := rfl
@[simp] theorem Block.setLink_get_meter (lk) (x) (m' : Fin 8) : (b.setLink lk x).meter m' = b.meter m' := rfl
@[simp] theorem Block.setLink_get_qual (lk) (x) (i' : Input) : (b.setLink lk x).qual i' = b.qual i' := rfl
@[simp] theorem Block.setLink_get_reading (lk) (x) (i' : Input) : (b.setLink lk x).reading i' = b.reading i' := rfl
@[simp] theorem Block.setLink_get_clock (lk) (x) : (b.setLink lk x).clock = b.clock := rfl
@[simp] theorem Block.setLink_get_n (lk) (x) : (b.setLink lk x).n = b.n := rfl
/-! ### setNotice -/
@[simp] theorem Block.setNotice_links (lk) (x) : (b.setNotice lk x).links = b.links := rfl
@[simp] theorem Block.setNotice_cond (lk) (x) : (b.setNotice lk x).cond = b.cond := rfl
@[simp] theorem Block.setNotice_config (lk) (x) : (b.setNotice lk x).config = b.config := rfl
@[simp] theorem Block.setNotice_resetHeld (lk) (x) : (b.setNotice lk x).resetHeld = b.resetHeld := rfl
@[simp] theorem Block.setNotice_chambers (lk) (x) : (b.setNotice lk x).chambers = b.chambers := rfl
@[simp] theorem Block.setNotice_sections (lk) (x) : (b.setNotice lk x).sections = b.sections := rfl
@[simp] theorem Block.setNotice_tick (lk) (x) : (b.setNotice lk x).tick = b.tick := rfl
@[simp] theorem Block.setNotice_quals (lk) (x) : (b.setNotice lk x).quals = b.quals := rfl
@[simp] theorem Block.setNotice_timers (lk) (x) : (b.setNotice lk x).timers = b.timers := rfl
@[simp] theorem Block.setNotice_flasher (lk) (x) : (b.setNotice lk x).flasher = b.flasher := rfl
@[simp] theorem Block.setNotice_drives (lk) (x) : (b.setNotice lk x).drives = b.drives := rfl
@[simp] theorem Block.setNotice_lamps (lk) (x) : (b.setNotice lk x).lamps = b.lamps := rfl
@[simp] theorem Block.setNotice_vessels (lk) (x) : (b.setNotice lk x).vessels = b.vessels := rfl
@[simp] theorem Block.setNotice_queues (lk) (x) : (b.setNotice lk x).queues = b.queues := rfl
@[simp] theorem Block.setNotice_lists (lk) (x) : (b.setNotice lk x).lists = b.lists := rfl
@[simp] theorem Block.setNotice_signals (lk) (x) : (b.setNotice lk x).signals = b.signals := rfl
@[simp] theorem Block.setNotice_tariff (lk) (x) : (b.setNotice lk x).tariff = b.tariff := rfl
@[simp] theorem Block.setNotice_acct (lk) (x) : (b.setNotice lk x).acct = b.acct := rfl
@[simp] theorem Block.setNotice_get_link (lk) (x) (lk' : Link) : (b.setNotice lk x).link lk' = b.link lk' := rfl
@[simp] theorem Block.setNotice_get_chamber (lk) (x) (c' : Fin 4) : (b.setNotice lk x).chamber c' = b.chamber c' := rfl
@[simp] theorem Block.setNotice_get_sec (lk) (x) (k' : Fin 5) : (b.setNotice lk x).sec k' = b.sec k' := rfl
@[simp] theorem Block.setNotice_get_timer (lk) (x) (k' : Fin 5) : (b.setNotice lk x).timer k' = b.timer k' := rfl
@[simp] theorem Block.setNotice_get_drive (lk) (x) (k' : Fin 5) : (b.setNotice lk x).drive k' = b.drive k' := rfl
@[simp] theorem Block.setNotice_get_lamp (lk) (x) (side' : Side) : (b.setNotice lk x).lamp side' = b.lamp side' := rfl
@[simp] theorem Block.setNotice_get_vessel (lk) (x) (v' : Fin 16) : (b.setNotice lk x).vessel v' = b.vessel v' := rfl
@[simp] theorem Block.setNotice_get_queue (lk) (x) (side' : Side) : (b.setNotice lk x).queue side' = b.queue side' := rfl
@[simp] theorem Block.setNotice_get_list (lk) (x) (c' : Fin 4) : (b.setNotice lk x).list c' = b.list c' := rfl
@[simp] theorem Block.setNotice_get_signal (lk) (x) (side' : Side) : (b.setNotice lk x).signal side' = b.signal side' := rfl
@[simp] theorem Block.setNotice_get_meter (lk) (x) (m' : Fin 8) : (b.setNotice lk x).meter m' = b.meter m' := rfl
@[simp] theorem Block.setNotice_get_qual (lk) (x) (i' : Input) : (b.setNotice lk x).qual i' = b.qual i' := rfl
@[simp] theorem Block.setNotice_get_reading (lk) (x) (i' : Input) : (b.setNotice lk x).reading i' = b.reading i' := rfl
@[simp] theorem Block.setNotice_get_clock (lk) (x) : (b.setNotice lk x).clock = b.clock := rfl
@[simp] theorem Block.setNotice_get_n (lk) (x) : (b.setNotice lk x).n = b.n := rfl
/-! ### setCond -/
@[simp] theorem Block.setCond_links (x) : (b.setCond x).links = b.links := rfl
@[simp] theorem Block.setCond_notices (x) : (b.setCond x).notices = b.notices := rfl
@[simp] theorem Block.setCond_config (x) : (b.setCond x).config = b.config := rfl
@[simp] theorem Block.setCond_resetHeld (x) : (b.setCond x).resetHeld = b.resetHeld := rfl
@[simp] theorem Block.setCond_chambers (x) : (b.setCond x).chambers = b.chambers := rfl
@[simp] theorem Block.setCond_sections (x) : (b.setCond x).sections = b.sections := rfl
@[simp] theorem Block.setCond_tick (x) : (b.setCond x).tick = b.tick := rfl
@[simp] theorem Block.setCond_quals (x) : (b.setCond x).quals = b.quals := rfl
@[simp] theorem Block.setCond_timers (x) : (b.setCond x).timers = b.timers := rfl
@[simp] theorem Block.setCond_flasher (x) : (b.setCond x).flasher = b.flasher := rfl
@[simp] theorem Block.setCond_drives (x) : (b.setCond x).drives = b.drives := rfl
@[simp] theorem Block.setCond_lamps (x) : (b.setCond x).lamps = b.lamps := rfl
@[simp] theorem Block.setCond_vessels (x) : (b.setCond x).vessels = b.vessels := rfl
@[simp] theorem Block.setCond_queues (x) : (b.setCond x).queues = b.queues := rfl
@[simp] theorem Block.setCond_lists (x) : (b.setCond x).lists = b.lists := rfl
@[simp] theorem Block.setCond_signals (x) : (b.setCond x).signals = b.signals := rfl
@[simp] theorem Block.setCond_tariff (x) : (b.setCond x).tariff = b.tariff := rfl
@[simp] theorem Block.setCond_acct (x) : (b.setCond x).acct = b.acct := rfl
@[simp] theorem Block.setCond_get_link (x) (lk' : Link) : (b.setCond x).link lk' = b.link lk' := rfl
@[simp] theorem Block.setCond_get_notice (x) (lk' : Link) : (b.setCond x).notice lk' = b.notice lk' := rfl
@[simp] theorem Block.setCond_get_chamber (x) (c' : Fin 4) : (b.setCond x).chamber c' = b.chamber c' := rfl
@[simp] theorem Block.setCond_get_sec (x) (k' : Fin 5) : (b.setCond x).sec k' = b.sec k' := rfl
@[simp] theorem Block.setCond_get_timer (x) (k' : Fin 5) : (b.setCond x).timer k' = b.timer k' := rfl
@[simp] theorem Block.setCond_get_drive (x) (k' : Fin 5) : (b.setCond x).drive k' = b.drive k' := rfl
@[simp] theorem Block.setCond_get_lamp (x) (side' : Side) : (b.setCond x).lamp side' = b.lamp side' := rfl
@[simp] theorem Block.setCond_get_vessel (x) (v' : Fin 16) : (b.setCond x).vessel v' = b.vessel v' := rfl
@[simp] theorem Block.setCond_get_queue (x) (side' : Side) : (b.setCond x).queue side' = b.queue side' := rfl
@[simp] theorem Block.setCond_get_list (x) (c' : Fin 4) : (b.setCond x).list c' = b.list c' := rfl
@[simp] theorem Block.setCond_get_signal (x) (side' : Side) : (b.setCond x).signal side' = b.signal side' := rfl
@[simp] theorem Block.setCond_get_meter (x) (m' : Fin 8) : (b.setCond x).meter m' = b.meter m' := rfl
@[simp] theorem Block.setCond_get_qual (x) (i' : Input) : (b.setCond x).qual i' = b.qual i' := rfl
@[simp] theorem Block.setCond_get_reading (x) (i' : Input) : (b.setCond x).reading i' = b.reading i' := rfl
@[simp] theorem Block.setCond_get_clock (x) : (b.setCond x).clock = b.clock := rfl
@[simp] theorem Block.setCond_get_n (x) : (b.setCond x).n = b.n := rfl
/-! ### setConfig -/
@[simp] theorem Block.setConfig_links (x) : (b.setConfig x).links = b.links := rfl
@[simp] theorem Block.setConfig_notices (x) : (b.setConfig x).notices = b.notices := rfl
@[simp] theorem Block.setConfig_cond (x) : (b.setConfig x).cond = b.cond := rfl
@[simp] theorem Block.setConfig_resetHeld (x) : (b.setConfig x).resetHeld = b.resetHeld := rfl
@[simp] theorem Block.setConfig_chambers (x) : (b.setConfig x).chambers = b.chambers := rfl
@[simp] theorem Block.setConfig_sections (x) : (b.setConfig x).sections = b.sections := rfl
@[simp] theorem Block.setConfig_tick (x) : (b.setConfig x).tick = b.tick := rfl
@[simp] theorem Block.setConfig_quals (x) : (b.setConfig x).quals = b.quals := rfl
@[simp] theorem Block.setConfig_timers (x) : (b.setConfig x).timers = b.timers := rfl
@[simp] theorem Block.setConfig_flasher (x) : (b.setConfig x).flasher = b.flasher := rfl
@[simp] theorem Block.setConfig_drives (x) : (b.setConfig x).drives = b.drives := rfl
@[simp] theorem Block.setConfig_lamps (x) : (b.setConfig x).lamps = b.lamps := rfl
@[simp] theorem Block.setConfig_vessels (x) : (b.setConfig x).vessels = b.vessels := rfl
@[simp] theorem Block.setConfig_queues (x) : (b.setConfig x).queues = b.queues := rfl
@[simp] theorem Block.setConfig_lists (x) : (b.setConfig x).lists = b.lists := rfl
@[simp] theorem Block.setConfig_signals (x) : (b.setConfig x).signals = b.signals := rfl
@[simp] theorem Block.setConfig_tariff (x) : (b.setConfig x).tariff = b.tariff := rfl
@[simp] theorem Block.setConfig_acct (x) : (b.setConfig x).acct = b.acct := rfl
@[simp] theorem Block.setConfig_get_link (x) (lk' : Link) : (b.setConfig x).link lk' = b.link lk' := rfl
@[simp] theorem Block.setConfig_get_notice (x) (lk' : Link) : (b.setConfig x).notice lk' = b.notice lk' := rfl
@[simp] theorem Block.setConfig_get_chamber (x) (c' : Fin 4) : (b.setConfig x).chamber c' = b.chamber c' := rfl
@[simp] theorem Block.setConfig_get_sec (x) (k' : Fin 5) : (b.setConfig x).sec k' = b.sec k' := rfl
@[simp] theorem Block.setConfig_get_timer (x) (k' : Fin 5) : (b.setConfig x).timer k' = b.timer k' := rfl
@[simp] theorem Block.setConfig_get_drive (x) (k' : Fin 5) : (b.setConfig x).drive k' = b.drive k' := rfl
@[simp] theorem Block.setConfig_get_lamp (x) (side' : Side) : (b.setConfig x).lamp side' = b.lamp side' := rfl
@[simp] theorem Block.setConfig_get_vessel (x) (v' : Fin 16) : (b.setConfig x).vessel v' = b.vessel v' := rfl
@[simp] theorem Block.setConfig_get_queue (x) (side' : Side) : (b.setConfig x).queue side' = b.queue side' := rfl
@[simp] theorem Block.setConfig_get_list (x) (c' : Fin 4) : (b.setConfig x).list c' = b.list c' := rfl
@[simp] theorem Block.setConfig_get_signal (x) (side' : Side) : (b.setConfig x).signal side' = b.signal side' := rfl
@[simp] theorem Block.setConfig_get_meter (x) (m' : Fin 8) : (b.setConfig x).meter m' = b.meter m' := rfl
@[simp] theorem Block.setConfig_get_qual (x) (i' : Input) : (b.setConfig x).qual i' = b.qual i' := rfl
@[simp] theorem Block.setConfig_get_reading (x) (i' : Input) : (b.setConfig x).reading i' = b.reading i' := rfl
@[simp] theorem Block.setConfig_get_clock (x) : (b.setConfig x).clock = b.clock := rfl
/-! ### setHeld -/
@[simp] theorem Block.setHeld_links (x) : (b.setHeld x).links = b.links := rfl
@[simp] theorem Block.setHeld_notices (x) : (b.setHeld x).notices = b.notices := rfl
@[simp] theorem Block.setHeld_cond (x) : (b.setHeld x).cond = b.cond := rfl
@[simp] theorem Block.setHeld_config (x) : (b.setHeld x).config = b.config := rfl
@[simp] theorem Block.setHeld_chambers (x) : (b.setHeld x).chambers = b.chambers := rfl
@[simp] theorem Block.setHeld_sections (x) : (b.setHeld x).sections = b.sections := rfl
@[simp] theorem Block.setHeld_tick (x) : (b.setHeld x).tick = b.tick := rfl
@[simp] theorem Block.setHeld_quals (x) : (b.setHeld x).quals = b.quals := rfl
@[simp] theorem Block.setHeld_timers (x) : (b.setHeld x).timers = b.timers := rfl
@[simp] theorem Block.setHeld_flasher (x) : (b.setHeld x).flasher = b.flasher := rfl
@[simp] theorem Block.setHeld_drives (x) : (b.setHeld x).drives = b.drives := rfl
@[simp] theorem Block.setHeld_lamps (x) : (b.setHeld x).lamps = b.lamps := rfl
@[simp] theorem Block.setHeld_vessels (x) : (b.setHeld x).vessels = b.vessels := rfl
@[simp] theorem Block.setHeld_queues (x) : (b.setHeld x).queues = b.queues := rfl
@[simp] theorem Block.setHeld_lists (x) : (b.setHeld x).lists = b.lists := rfl
@[simp] theorem Block.setHeld_signals (x) : (b.setHeld x).signals = b.signals := rfl
@[simp] theorem Block.setHeld_tariff (x) : (b.setHeld x).tariff = b.tariff := rfl
@[simp] theorem Block.setHeld_acct (x) : (b.setHeld x).acct = b.acct := rfl
@[simp] theorem Block.setHeld_get_link (x) (lk' : Link) : (b.setHeld x).link lk' = b.link lk' := rfl
@[simp] theorem Block.setHeld_get_notice (x) (lk' : Link) : (b.setHeld x).notice lk' = b.notice lk' := rfl
@[simp] theorem Block.setHeld_get_chamber (x) (c' : Fin 4) : (b.setHeld x).chamber c' = b.chamber c' := rfl
@[simp] theorem Block.setHeld_get_sec (x) (k' : Fin 5) : (b.setHeld x).sec k' = b.sec k' := rfl
@[simp] theorem Block.setHeld_get_timer (x) (k' : Fin 5) : (b.setHeld x).timer k' = b.timer k' := rfl
@[simp] theorem Block.setHeld_get_drive (x) (k' : Fin 5) : (b.setHeld x).drive k' = b.drive k' := rfl
@[simp] theorem Block.setHeld_get_lamp (x) (side' : Side) : (b.setHeld x).lamp side' = b.lamp side' := rfl
@[simp] theorem Block.setHeld_get_vessel (x) (v' : Fin 16) : (b.setHeld x).vessel v' = b.vessel v' := rfl
@[simp] theorem Block.setHeld_get_queue (x) (side' : Side) : (b.setHeld x).queue side' = b.queue side' := rfl
@[simp] theorem Block.setHeld_get_list (x) (c' : Fin 4) : (b.setHeld x).list c' = b.list c' := rfl
@[simp] theorem Block.setHeld_get_signal (x) (side' : Side) : (b.setHeld x).signal side' = b.signal side' := rfl
@[simp] theorem Block.setHeld_get_meter (x) (m' : Fin 8) : (b.setHeld x).meter m' = b.meter m' := rfl
@[simp] theorem Block.setHeld_get_qual (x) (i' : Input) : (b.setHeld x).qual i' = b.qual i' := rfl
@[simp] theorem Block.setHeld_get_reading (x) (i' : Input) : (b.setHeld x).reading i' = b.reading i' := rfl
@[simp] theorem Block.setHeld_get_clock (x) : (b.setHeld x).clock = b.clock := rfl
@[simp] theorem Block.setHeld_get_n (x) : (b.setHeld x).n = b.n := rfl
/-! ### setChamber -/
@[simp] theorem Block.setChamber_links (c) (x) : (b.setChamber c x).links = b.links := rfl
@[simp] theorem Block.setChamber_notices (c) (x) : (b.setChamber c x).notices = b.notices := rfl
@[simp] theorem Block.setChamber_cond (c) (x) : (b.setChamber c x).cond = b.cond := rfl
@[simp] theorem Block.setChamber_config (c) (x) : (b.setChamber c x).config = b.config := rfl
@[simp] theorem Block.setChamber_resetHeld (c) (x) : (b.setChamber c x).resetHeld = b.resetHeld := rfl
@[simp] theorem Block.setChamber_sections (c) (x) : (b.setChamber c x).sections = b.sections := rfl
@[simp] theorem Block.setChamber_tick (c) (x) : (b.setChamber c x).tick = b.tick := rfl
@[simp] theorem Block.setChamber_quals (c) (x) : (b.setChamber c x).quals = b.quals := rfl
@[simp] theorem Block.setChamber_timers (c) (x) : (b.setChamber c x).timers = b.timers := rfl
@[simp] theorem Block.setChamber_flasher (c) (x) : (b.setChamber c x).flasher = b.flasher := rfl
@[simp] theorem Block.setChamber_drives (c) (x) : (b.setChamber c x).drives = b.drives := rfl
@[simp] theorem Block.setChamber_lamps (c) (x) : (b.setChamber c x).lamps = b.lamps := rfl
@[simp] theorem Block.setChamber_vessels (c) (x) : (b.setChamber c x).vessels = b.vessels := rfl
@[simp] theorem Block.setChamber_queues (c) (x) : (b.setChamber c x).queues = b.queues := rfl
@[simp] theorem Block.setChamber_lists (c) (x) : (b.setChamber c x).lists = b.lists := rfl
@[simp] theorem Block.setChamber_signals (c) (x) : (b.setChamber c x).signals = b.signals := rfl
@[simp] theorem Block.setChamber_tariff (c) (x) : (b.setChamber c x).tariff = b.tariff := rfl
@[simp] theorem Block.setChamber_acct (c) (x) : (b.setChamber c x).acct = b.acct := rfl
@[simp] theorem Block.setChamber_get_link (c) (x) (lk' : Link) : (b.setChamber c x).link lk' = b.link lk' := rfl
@[simp] theorem Block.setChamber_get_notice (c) (x) (lk' : Link) : (b.setChamber c x).notice lk' = b.notice lk' := rfl
@[simp] theorem Block.setChamber_get_sec (c) (x) (k' : Fin 5) : (b.setChamber c x).sec k' = b.sec k' := rfl
@[simp] theorem Block.setChamber_get_timer (c) (x) (k' : Fin 5) : (b.setChamber c x).timer k' = b.timer k' := rfl
@[simp] theorem Block.setChamber_get_drive (c) (x) (k' : Fin 5) : (b.setChamber c x).drive k' = b.drive k' := rfl
@[simp] theorem Block.setChamber_get_lamp (c) (x) (side' : Side) : (b.setChamber c x).lamp side' = b.lamp side' := rfl
@[simp] theorem Block.setChamber_get_vessel (c) (x) (v' : Fin 16) : (b.setChamber c x).vessel v' = b.vessel v' := rfl
@[simp] theorem Block.setChamber_get_queue (c) (x) (side' : Side) : (b.setChamber c x).queue side' = b.queue side' := rfl
@[simp] theorem Block.setChamber_get_list (c) (x) (c' : Fin 4) : (b.setChamber c x).list c' = b.list c' := rfl
@[simp] theorem Block.setChamber_get_signal (c) (x) (side' : Side) : (b.setChamber c x).signal side' = b.signal side' := rfl
@[simp] theorem Block.setChamber_get_meter (c) (x) (m' : Fin 8) : (b.setChamber c x).meter m' = b.meter m' := rfl
@[simp] theorem Block.setChamber_get_qual (c) (x) (i' : Input) : (b.setChamber c x).qual i' = b.qual i' := rfl
@[simp] theorem Block.setChamber_get_reading (c) (x) (i' : Input) : (b.setChamber c x).reading i' = b.reading i' := rfl
@[simp] theorem Block.setChamber_get_clock (c) (x) : (b.setChamber c x).clock = b.clock := rfl
@[simp] theorem Block.setChamber_get_n (c) (x) : (b.setChamber c x).n = b.n := rfl
/-! ### setSec -/
@[simp] theorem Block.setSec_links (k) (x) : (b.setSec k x).links = b.links := rfl
@[simp] theorem Block.setSec_notices (k) (x) : (b.setSec k x).notices = b.notices := rfl
@[simp] theorem Block.setSec_cond (k) (x) : (b.setSec k x).cond = b.cond := rfl
@[simp] theorem Block.setSec_config (k) (x) : (b.setSec k x).config = b.config := rfl
@[simp] theorem Block.setSec_resetHeld (k) (x) : (b.setSec k x).resetHeld = b.resetHeld := rfl
@[simp] theorem Block.setSec_chambers (k) (x) : (b.setSec k x).chambers = b.chambers := rfl
@[simp] theorem Block.setSec_tick (k) (x) : (b.setSec k x).tick = b.tick := rfl
@[simp] theorem Block.setSec_quals (k) (x) : (b.setSec k x).quals = b.quals := rfl
@[simp] theorem Block.setSec_timers (k) (x) : (b.setSec k x).timers = b.timers := rfl
@[simp] theorem Block.setSec_flasher (k) (x) : (b.setSec k x).flasher = b.flasher := rfl
@[simp] theorem Block.setSec_drives (k) (x) : (b.setSec k x).drives = b.drives := rfl
@[simp] theorem Block.setSec_lamps (k) (x) : (b.setSec k x).lamps = b.lamps := rfl
@[simp] theorem Block.setSec_vessels (k) (x) : (b.setSec k x).vessels = b.vessels := rfl
@[simp] theorem Block.setSec_queues (k) (x) : (b.setSec k x).queues = b.queues := rfl
@[simp] theorem Block.setSec_lists (k) (x) : (b.setSec k x).lists = b.lists := rfl
@[simp] theorem Block.setSec_signals (k) (x) : (b.setSec k x).signals = b.signals := rfl
@[simp] theorem Block.setSec_tariff (k) (x) : (b.setSec k x).tariff = b.tariff := rfl
@[simp] theorem Block.setSec_acct (k) (x) : (b.setSec k x).acct = b.acct := rfl
@[simp] theorem Block.setSec_get_link (k) (x) (lk' : Link) : (b.setSec k x).link lk' = b.link lk' := rfl
@[simp] theorem Block.setSec_get_notice (k) (x) (lk' : Link) : (b.setSec k x).notice lk' = b.notice lk' := rfl
@[simp] theorem Block.setSec_get_chamber (k) (x) (c' : Fin 4) : (b.setSec k x).chamber c' = b.chamber c' := rfl
@[simp] theorem Block.setSec_get_timer (k) (x) (k' : Fin 5) : (b.setSec k x).timer k' = b.timer k' := rfl
@[simp] theorem Block.setSec_get_drive (k) (x) (k' : Fin 5) : (b.setSec k x).drive k' = b.drive k' := rfl
@[simp] theorem Block.setSec_get_lamp (k) (x) (side' : Side) : (b.setSec k x).lamp side' = b.lamp side' := rfl
@[simp] theorem Block.setSec_get_vessel (k) (x) (v' : Fin 16) : (b.setSec k x).vessel v' = b.vessel v' := rfl
@[simp] theorem Block.setSec_get_queue (k) (x) (side' : Side) : (b.setSec k x).queue side' = b.queue side' := rfl
@[simp] theorem Block.setSec_get_list (k) (x) (c' : Fin 4) : (b.setSec k x).list c' = b.list c' := rfl
@[simp] theorem Block.setSec_get_signal (k) (x) (side' : Side) : (b.setSec k x).signal side' = b.signal side' := rfl
@[simp] theorem Block.setSec_get_meter (k) (x) (m' : Fin 8) : (b.setSec k x).meter m' = b.meter m' := rfl
@[simp] theorem Block.setSec_get_qual (k) (x) (i' : Input) : (b.setSec k x).qual i' = b.qual i' := rfl
@[simp] theorem Block.setSec_get_reading (k) (x) (i' : Input) : (b.setSec k x).reading i' = b.reading i' := rfl
@[simp] theorem Block.setSec_get_clock (k) (x) : (b.setSec k x).clock = b.clock := rfl
@[simp] theorem Block.setSec_get_n (k) (x) : (b.setSec k x).n = b.n := rfl
/-! ### setTick -/
@[simp] theorem Block.setTick_links (x) : (b.setTick x).links = b.links := rfl
@[simp] theorem Block.setTick_notices (x) : (b.setTick x).notices = b.notices := rfl
@[simp] theorem Block.setTick_cond (x) : (b.setTick x).cond = b.cond := rfl
@[simp] theorem Block.setTick_config (x) : (b.setTick x).config = b.config := rfl
@[simp] theorem Block.setTick_resetHeld (x) : (b.setTick x).resetHeld = b.resetHeld := rfl
@[simp] theorem Block.setTick_chambers (x) : (b.setTick x).chambers = b.chambers := rfl
@[simp] theorem Block.setTick_sections (x) : (b.setTick x).sections = b.sections := rfl
@[simp] theorem Block.setTick_quals (x) : (b.setTick x).quals = b.quals := rfl
@[simp] theorem Block.setTick_timers (x) : (b.setTick x).timers = b.timers := rfl
@[simp] theorem Block.setTick_flasher (x) : (b.setTick x).flasher = b.flasher := rfl
@[simp] theorem Block.setTick_drives (x) : (b.setTick x).drives = b.drives := rfl
@[simp] theorem Block.setTick_lamps (x) : (b.setTick x).lamps = b.lamps := rfl
@[simp] theorem Block.setTick_vessels (x) : (b.setTick x).vessels = b.vessels := rfl
@[simp] theorem Block.setTick_queues (x) : (b.setTick x).queues = b.queues := rfl
@[simp] theorem Block.setTick_lists (x) : (b.setTick x).lists = b.lists := rfl
@[simp] theorem Block.setTick_signals (x) : (b.setTick x).signals = b.signals := rfl
@[simp] theorem Block.setTick_tariff (x) : (b.setTick x).tariff = b.tariff := rfl
@[simp] theorem Block.setTick_acct (x) : (b.setTick x).acct = b.acct := rfl
@[simp] theorem Block.setTick_get_link (x) (lk' : Link) : (b.setTick x).link lk' = b.link lk' := rfl
@[simp] theorem Block.setTick_get_notice (x) (lk' : Link) : (b.setTick x).notice lk' = b.notice lk' := rfl
@[simp] theorem Block.setTick_get_chamber (x) (c' : Fin 4) : (b.setTick x).chamber c' = b.chamber c' := rfl
@[simp] theorem Block.setTick_get_sec (x) (k' : Fin 5) : (b.setTick x).sec k' = b.sec k' := rfl
@[simp] theorem Block.setTick_get_timer (x) (k' : Fin 5) : (b.setTick x).timer k' = b.timer k' := rfl
@[simp] theorem Block.setTick_get_drive (x) (k' : Fin 5) : (b.setTick x).drive k' = b.drive k' := rfl
@[simp] theorem Block.setTick_get_lamp (x) (side' : Side) : (b.setTick x).lamp side' = b.lamp side' := rfl
@[simp] theorem Block.setTick_get_vessel (x) (v' : Fin 16) : (b.setTick x).vessel v' = b.vessel v' := rfl
@[simp] theorem Block.setTick_get_queue (x) (side' : Side) : (b.setTick x).queue side' = b.queue side' := rfl
@[simp] theorem Block.setTick_get_list (x) (c' : Fin 4) : (b.setTick x).list c' = b.list c' := rfl
@[simp] theorem Block.setTick_get_signal (x) (side' : Side) : (b.setTick x).signal side' = b.signal side' := rfl
@[simp] theorem Block.setTick_get_meter (x) (m' : Fin 8) : (b.setTick x).meter m' = b.meter m' := rfl
@[simp] theorem Block.setTick_get_qual (x) (i' : Input) : (b.setTick x).qual i' = b.qual i' := rfl
@[simp] theorem Block.setTick_get_reading (x) (i' : Input) : (b.setTick x).reading i' = b.reading i' := rfl
@[simp] theorem Block.setTick_get_clock (x) : (b.setTick x).clock = b.clock := rfl
@[simp] theorem Block.setTick_get_n (x) : (b.setTick x).n = b.n := rfl
/-! ### setTimer -/
@[simp] theorem Block.setTimer_links (k) (x) : (b.setTimer k x).links = b.links := rfl
@[simp] theorem Block.setTimer_notices (k) (x) : (b.setTimer k x).notices = b.notices := rfl
@[simp] theorem Block.setTimer_cond (k) (x) : (b.setTimer k x).cond = b.cond := rfl
@[simp] theorem Block.setTimer_config (k) (x) : (b.setTimer k x).config = b.config := rfl
@[simp] theorem Block.setTimer_resetHeld (k) (x) : (b.setTimer k x).resetHeld = b.resetHeld := rfl
@[simp] theorem Block.setTimer_chambers (k) (x) : (b.setTimer k x).chambers = b.chambers := rfl
@[simp] theorem Block.setTimer_sections (k) (x) : (b.setTimer k x).sections = b.sections := rfl
@[simp] theorem Block.setTimer_tick (k) (x) : (b.setTimer k x).tick = b.tick := rfl
@[simp] theorem Block.setTimer_quals (k) (x) : (b.setTimer k x).quals = b.quals := rfl
@[simp] theorem Block.setTimer_flasher (k) (x) : (b.setTimer k x).flasher = b.flasher := rfl
@[simp] theorem Block.setTimer_drives (k) (x) : (b.setTimer k x).drives = b.drives := rfl
@[simp] theorem Block.setTimer_lamps (k) (x) : (b.setTimer k x).lamps = b.lamps := rfl
@[simp] theorem Block.setTimer_vessels (k) (x) : (b.setTimer k x).vessels = b.vessels := rfl
@[simp] theorem Block.setTimer_queues (k) (x) : (b.setTimer k x).queues = b.queues := rfl
@[simp] theorem Block.setTimer_lists (k) (x) : (b.setTimer k x).lists = b.lists := rfl
@[simp] theorem Block.setTimer_signals (k) (x) : (b.setTimer k x).signals = b.signals := rfl
@[simp] theorem Block.setTimer_tariff (k) (x) : (b.setTimer k x).tariff = b.tariff := rfl
@[simp] theorem Block.setTimer_acct (k) (x) : (b.setTimer k x).acct = b.acct := rfl
@[simp] theorem Block.setTimer_get_link (k) (x) (lk' : Link) : (b.setTimer k x).link lk' = b.link lk' := rfl
@[simp] theorem Block.setTimer_get_notice (k) (x) (lk' : Link) : (b.setTimer k x).notice lk' = b.notice lk' := rfl
@[simp] theorem Block.setTimer_get_chamber (k) (x) (c' : Fin 4) : (b.setTimer k x).chamber c' = b.chamber c' := rfl
@[simp] theorem Block.setTimer_get_sec (k) (x) (k' : Fin 5) : (b.setTimer k x).sec k' = b.sec k' := rfl
@[simp] theorem Block.setTimer_get_drive (k) (x) (k' : Fin 5) : (b.setTimer k x).drive k' = b.drive k' := rfl
@[simp] theorem Block.setTimer_get_lamp (k) (x) (side' : Side) : (b.setTimer k x).lamp side' = b.lamp side' := rfl
@[simp] theorem Block.setTimer_get_vessel (k) (x) (v' : Fin 16) : (b.setTimer k x).vessel v' = b.vessel v' := rfl
@[simp] theorem Block.setTimer_get_queue (k) (x) (side' : Side) : (b.setTimer k x).queue side' = b.queue side' := rfl
@[simp] theorem Block.setTimer_get_list (k) (x) (c' : Fin 4) : (b.setTimer k x).list c' = b.list c' := rfl
@[simp] theorem Block.setTimer_get_signal (k) (x) (side' : Side) : (b.setTimer k x).signal side' = b.signal side' := rfl
@[simp] theorem Block.setTimer_get_meter (k) (x) (m' : Fin 8) : (b.setTimer k x).meter m' = b.meter m' := rfl
@[simp] theorem Block.setTimer_get_qual (k) (x) (i' : Input) : (b.setTimer k x).qual i' = b.qual i' := rfl
@[simp] theorem Block.setTimer_get_reading (k) (x) (i' : Input) : (b.setTimer k x).reading i' = b.reading i' := rfl
@[simp] theorem Block.setTimer_get_clock (k) (x) : (b.setTimer k x).clock = b.clock := rfl
@[simp] theorem Block.setTimer_get_n (k) (x) : (b.setTimer k x).n = b.n := rfl
/-! ### setFlasher -/
@[simp] theorem Block.setFlasher_links (x) : (b.setFlasher x).links = b.links := rfl
@[simp] theorem Block.setFlasher_notices (x) : (b.setFlasher x).notices = b.notices := rfl
@[simp] theorem Block.setFlasher_cond (x) : (b.setFlasher x).cond = b.cond := rfl
@[simp] theorem Block.setFlasher_config (x) : (b.setFlasher x).config = b.config := rfl
@[simp] theorem Block.setFlasher_resetHeld (x) : (b.setFlasher x).resetHeld = b.resetHeld := rfl
@[simp] theorem Block.setFlasher_chambers (x) : (b.setFlasher x).chambers = b.chambers := rfl
@[simp] theorem Block.setFlasher_sections (x) : (b.setFlasher x).sections = b.sections := rfl
@[simp] theorem Block.setFlasher_tick (x) : (b.setFlasher x).tick = b.tick := rfl
@[simp] theorem Block.setFlasher_quals (x) : (b.setFlasher x).quals = b.quals := rfl
@[simp] theorem Block.setFlasher_timers (x) : (b.setFlasher x).timers = b.timers := rfl
@[simp] theorem Block.setFlasher_drives (x) : (b.setFlasher x).drives = b.drives := rfl
@[simp] theorem Block.setFlasher_lamps (x) : (b.setFlasher x).lamps = b.lamps := rfl
@[simp] theorem Block.setFlasher_vessels (x) : (b.setFlasher x).vessels = b.vessels := rfl
@[simp] theorem Block.setFlasher_queues (x) : (b.setFlasher x).queues = b.queues := rfl
@[simp] theorem Block.setFlasher_lists (x) : (b.setFlasher x).lists = b.lists := rfl
@[simp] theorem Block.setFlasher_signals (x) : (b.setFlasher x).signals = b.signals := rfl
@[simp] theorem Block.setFlasher_tariff (x) : (b.setFlasher x).tariff = b.tariff := rfl
@[simp] theorem Block.setFlasher_acct (x) : (b.setFlasher x).acct = b.acct := rfl
@[simp] theorem Block.setFlasher_get_link (x) (lk' : Link) : (b.setFlasher x).link lk' = b.link lk' := rfl
@[simp] theorem Block.setFlasher_get_notice (x) (lk' : Link) : (b.setFlasher x).notice lk' = b.notice lk' := rfl
@[simp] theorem Block.setFlasher_get_chamber (x) (c' : Fin 4) : (b.setFlasher x).chamber c' = b.chamber c' := rfl
@[simp] theorem Block.setFlasher_get_sec (x) (k' : Fin 5) : (b.setFlasher x).sec k' = b.sec k' := rfl
@[simp] theorem Block.setFlasher_get_timer (x) (k' : Fin 5) : (b.setFlasher x).timer k' = b.timer k' := rfl
@[simp] theorem Block.setFlasher_get_drive (x) (k' : Fin 5) : (b.setFlasher x).drive k' = b.drive k' := rfl
@[simp] theorem Block.setFlasher_get_lamp (x) (side' : Side) : (b.setFlasher x).lamp side' = b.lamp side' := rfl
@[simp] theorem Block.setFlasher_get_vessel (x) (v' : Fin 16) : (b.setFlasher x).vessel v' = b.vessel v' := rfl
@[simp] theorem Block.setFlasher_get_queue (x) (side' : Side) : (b.setFlasher x).queue side' = b.queue side' := rfl
@[simp] theorem Block.setFlasher_get_list (x) (c' : Fin 4) : (b.setFlasher x).list c' = b.list c' := rfl
@[simp] theorem Block.setFlasher_get_signal (x) (side' : Side) : (b.setFlasher x).signal side' = b.signal side' := rfl
@[simp] theorem Block.setFlasher_get_meter (x) (m' : Fin 8) : (b.setFlasher x).meter m' = b.meter m' := rfl
@[simp] theorem Block.setFlasher_get_qual (x) (i' : Input) : (b.setFlasher x).qual i' = b.qual i' := rfl
@[simp] theorem Block.setFlasher_get_reading (x) (i' : Input) : (b.setFlasher x).reading i' = b.reading i' := rfl
@[simp] theorem Block.setFlasher_get_clock (x) : (b.setFlasher x).clock = b.clock := rfl
@[simp] theorem Block.setFlasher_get_n (x) : (b.setFlasher x).n = b.n := rfl
/-! ### setDrive -/
@[simp] theorem Block.setDrive_links (k) (x) : (b.setDrive k x).links = b.links := rfl
@[simp] theorem Block.setDrive_notices (k) (x) : (b.setDrive k x).notices = b.notices := rfl
@[simp] theorem Block.setDrive_cond (k) (x) : (b.setDrive k x).cond = b.cond := rfl
@[simp] theorem Block.setDrive_config (k) (x) : (b.setDrive k x).config = b.config := rfl
@[simp] theorem Block.setDrive_resetHeld (k) (x) : (b.setDrive k x).resetHeld = b.resetHeld := rfl
@[simp] theorem Block.setDrive_chambers (k) (x) : (b.setDrive k x).chambers = b.chambers := rfl
@[simp] theorem Block.setDrive_sections (k) (x) : (b.setDrive k x).sections = b.sections := rfl
@[simp] theorem Block.setDrive_tick (k) (x) : (b.setDrive k x).tick = b.tick := rfl
@[simp] theorem Block.setDrive_quals (k) (x) : (b.setDrive k x).quals = b.quals := rfl
@[simp] theorem Block.setDrive_timers (k) (x) : (b.setDrive k x).timers = b.timers := rfl
@[simp] theorem Block.setDrive_flasher (k) (x) : (b.setDrive k x).flasher = b.flasher := rfl
@[simp] theorem Block.setDrive_lamps (k) (x) : (b.setDrive k x).lamps = b.lamps := rfl
@[simp] theorem Block.setDrive_vessels (k) (x) : (b.setDrive k x).vessels = b.vessels := rfl
@[simp] theorem Block.setDrive_queues (k) (x) : (b.setDrive k x).queues = b.queues := rfl
@[simp] theorem Block.setDrive_lists (k) (x) : (b.setDrive k x).lists = b.lists := rfl
@[simp] theorem Block.setDrive_signals (k) (x) : (b.setDrive k x).signals = b.signals := rfl
@[simp] theorem Block.setDrive_tariff (k) (x) : (b.setDrive k x).tariff = b.tariff := rfl
@[simp] theorem Block.setDrive_acct (k) (x) : (b.setDrive k x).acct = b.acct := rfl
@[simp] theorem Block.setDrive_get_link (k) (x) (lk' : Link) : (b.setDrive k x).link lk' = b.link lk' := rfl
@[simp] theorem Block.setDrive_get_notice (k) (x) (lk' : Link) : (b.setDrive k x).notice lk' = b.notice lk' := rfl
@[simp] theorem Block.setDrive_get_chamber (k) (x) (c' : Fin 4) : (b.setDrive k x).chamber c' = b.chamber c' := rfl
@[simp] theorem Block.setDrive_get_sec (k) (x) (k' : Fin 5) : (b.setDrive k x).sec k' = b.sec k' := rfl
@[simp] theorem Block.setDrive_get_timer (k) (x) (k' : Fin 5) : (b.setDrive k x).timer k' = b.timer k' := rfl
@[simp] theorem Block.setDrive_get_lamp (k) (x) (side' : Side) : (b.setDrive k x).lamp side' = b.lamp side' := rfl
@[simp] theorem Block.setDrive_get_vessel (k) (x) (v' : Fin 16) : (b.setDrive k x).vessel v' = b.vessel v' := rfl
@[simp] theorem Block.setDrive_get_queue (k) (x) (side' : Side) : (b.setDrive k x).queue side' = b.queue side' := rfl
@[simp] theorem Block.setDrive_get_list (k) (x) (c' : Fin 4) : (b.setDrive k x).list c' = b.list c' := rfl
@[simp] theorem Block.setDrive_get_signal (k) (x) (side' : Side) : (b.setDrive k x).signal side' = b.signal side' := rfl
@[simp] theorem Block.setDrive_get_meter (k) (x) (m' : Fin 8) : (b.setDrive k x).meter m' = b.meter m' := rfl
@[simp] theorem Block.setDrive_get_qual (k) (x) (i' : Input) : (b.setDrive k x).qual i' = b.qual i' := rfl
@[simp] theorem Block.setDrive_get_reading (k) (x) (i' : Input) : (b.setDrive k x).reading i' = b.reading i' := rfl
@[simp] theorem Block.setDrive_get_clock (k) (x) : (b.setDrive k x).clock = b.clock := rfl
@[simp] theorem Block.setDrive_get_n (k) (x) : (b.setDrive k x).n = b.n := rfl
/-! ### setLamp -/
@[simp] theorem Block.setLamp_links (side) (x) : (b.setLamp side x).links = b.links := rfl
@[simp] theorem Block.setLamp_notices (side) (x) : (b.setLamp side x).notices = b.notices := rfl
@[simp] theorem Block.setLamp_cond (side) (x) : (b.setLamp side x).cond = b.cond := rfl
@[simp] theorem Block.setLamp_config (side) (x) : (b.setLamp side x).config = b.config := rfl
@[simp] theorem Block.setLamp_resetHeld (side) (x) : (b.setLamp side x).resetHeld = b.resetHeld := rfl
@[simp] theorem Block.setLamp_chambers (side) (x) : (b.setLamp side x).chambers = b.chambers := rfl
@[simp] theorem Block.setLamp_sections (side) (x) : (b.setLamp side x).sections = b.sections := rfl
@[simp] theorem Block.setLamp_tick (side) (x) : (b.setLamp side x).tick = b.tick := rfl
@[simp] theorem Block.setLamp_quals (side) (x) : (b.setLamp side x).quals = b.quals := rfl
@[simp] theorem Block.setLamp_timers (side) (x) : (b.setLamp side x).timers = b.timers := rfl
@[simp] theorem Block.setLamp_flasher (side) (x) : (b.setLamp side x).flasher = b.flasher := rfl
@[simp] theorem Block.setLamp_drives (side) (x) : (b.setLamp side x).drives = b.drives := rfl
@[simp] theorem Block.setLamp_vessels (side) (x) : (b.setLamp side x).vessels = b.vessels := rfl
@[simp] theorem Block.setLamp_queues (side) (x) : (b.setLamp side x).queues = b.queues := rfl
@[simp] theorem Block.setLamp_lists (side) (x) : (b.setLamp side x).lists = b.lists := rfl
@[simp] theorem Block.setLamp_signals (side) (x) : (b.setLamp side x).signals = b.signals := rfl
@[simp] theorem Block.setLamp_tariff (side) (x) : (b.setLamp side x).tariff = b.tariff := rfl
@[simp] theorem Block.setLamp_acct (side) (x) : (b.setLamp side x).acct = b.acct := rfl
@[simp] theorem Block.setLamp_get_link (side) (x) (lk' : Link) : (b.setLamp side x).link lk' = b.link lk' := rfl
@[simp] theorem Block.setLamp_get_notice (side) (x) (lk' : Link) : (b.setLamp side x).notice lk' = b.notice lk' := rfl
@[simp] theorem Block.setLamp_get_chamber (side) (x) (c' : Fin 4) : (b.setLamp side x).chamber c' = b.chamber c' := rfl
@[simp] theorem Block.setLamp_get_sec (side) (x) (k' : Fin 5) : (b.setLamp side x).sec k' = b.sec k' := rfl
@[simp] theorem Block.setLamp_get_timer (side) (x) (k' : Fin 5) : (b.setLamp side x).timer k' = b.timer k' := rfl
@[simp] theorem Block.setLamp_get_drive (side) (x) (k' : Fin 5) : (b.setLamp side x).drive k' = b.drive k' := rfl
@[simp] theorem Block.setLamp_get_vessel (side) (x) (v' : Fin 16) : (b.setLamp side x).vessel v' = b.vessel v' := rfl
@[simp] theorem Block.setLamp_get_queue (side) (x) (side' : Side) : (b.setLamp side x).queue side' = b.queue side' := rfl
@[simp] theorem Block.setLamp_get_list (side) (x) (c' : Fin 4) : (b.setLamp side x).list c' = b.list c' := rfl
@[simp] theorem Block.setLamp_get_signal (side) (x) (side' : Side) : (b.setLamp side x).signal side' = b.signal side' := rfl
@[simp] theorem Block.setLamp_get_meter (side) (x) (m' : Fin 8) : (b.setLamp side x).meter m' = b.meter m' := rfl
@[simp] theorem Block.setLamp_get_qual (side) (x) (i' : Input) : (b.setLamp side x).qual i' = b.qual i' := rfl
@[simp] theorem Block.setLamp_get_reading (side) (x) (i' : Input) : (b.setLamp side x).reading i' = b.reading i' := rfl
@[simp] theorem Block.setLamp_get_clock (side) (x) : (b.setLamp side x).clock = b.clock := rfl
@[simp] theorem Block.setLamp_get_n (side) (x) : (b.setLamp side x).n = b.n := rfl
/-! ### setVessel -/
@[simp] theorem Block.setVessel_links (v) (x) : (b.setVessel v x).links = b.links := rfl
@[simp] theorem Block.setVessel_notices (v) (x) : (b.setVessel v x).notices = b.notices := rfl
@[simp] theorem Block.setVessel_cond (v) (x) : (b.setVessel v x).cond = b.cond := rfl
@[simp] theorem Block.setVessel_config (v) (x) : (b.setVessel v x).config = b.config := rfl
@[simp] theorem Block.setVessel_resetHeld (v) (x) : (b.setVessel v x).resetHeld = b.resetHeld := rfl
@[simp] theorem Block.setVessel_chambers (v) (x) : (b.setVessel v x).chambers = b.chambers := rfl
@[simp] theorem Block.setVessel_sections (v) (x) : (b.setVessel v x).sections = b.sections := rfl
@[simp] theorem Block.setVessel_tick (v) (x) : (b.setVessel v x).tick = b.tick := rfl
@[simp] theorem Block.setVessel_quals (v) (x) : (b.setVessel v x).quals = b.quals := rfl
@[simp] theorem Block.setVessel_timers (v) (x) : (b.setVessel v x).timers = b.timers := rfl
@[simp] theorem Block.setVessel_flasher (v) (x) : (b.setVessel v x).flasher = b.flasher := rfl
@[simp] theorem Block.setVessel_drives (v) (x) : (b.setVessel v x).drives = b.drives := rfl
@[simp] theorem Block.setVessel_lamps (v) (x) : (b.setVessel v x).lamps = b.lamps := rfl
@[simp] theorem Block.setVessel_queues (v) (x) : (b.setVessel v x).queues = b.queues := rfl
@[simp] theorem Block.setVessel_lists (v) (x) : (b.setVessel v x).lists = b.lists := rfl
@[simp] theorem Block.setVessel_signals (v) (x) : (b.setVessel v x).signals = b.signals := rfl
@[simp] theorem Block.setVessel_tariff (v) (x) : (b.setVessel v x).tariff = b.tariff := rfl
@[simp] theorem Block.setVessel_acct (v) (x) : (b.setVessel v x).acct = b.acct := rfl
@[simp] theorem Block.setVessel_get_link (v) (x) (lk' : Link) : (b.setVessel v x).link lk' = b.link lk' := rfl
@[simp] theorem Block.setVessel_get_notice (v) (x) (lk' : Link) : (b.setVessel v x).notice lk' = b.notice lk' := rfl
@[simp] theorem Block.setVessel_get_chamber (v) (x) (c' : Fin 4) : (b.setVessel v x).chamber c' = b.chamber c' := rfl
@[simp] theorem Block.setVessel_get_sec (v) (x) (k' : Fin 5) : (b.setVessel v x).sec k' = b.sec k' := rfl
@[simp] theorem Block.setVessel_get_timer (v) (x) (k' : Fin 5) : (b.setVessel v x).timer k' = b.timer k' := rfl
@[simp] theorem Block.setVessel_get_drive (v) (x) (k' : Fin 5) : (b.setVessel v x).drive k' = b.drive k' := rfl
@[simp] theorem Block.setVessel_get_lamp (v) (x) (side' : Side) : (b.setVessel v x).lamp side' = b.lamp side' := rfl
@[simp] theorem Block.setVessel_get_queue (v) (x) (side' : Side) : (b.setVessel v x).queue side' = b.queue side' := rfl
@[simp] theorem Block.setVessel_get_list (v) (x) (c' : Fin 4) : (b.setVessel v x).list c' = b.list c' := rfl
@[simp] theorem Block.setVessel_get_signal (v) (x) (side' : Side) : (b.setVessel v x).signal side' = b.signal side' := rfl
@[simp] theorem Block.setVessel_get_meter (v) (x) (m' : Fin 8) : (b.setVessel v x).meter m' = b.meter m' := rfl
@[simp] theorem Block.setVessel_get_qual (v) (x) (i' : Input) : (b.setVessel v x).qual i' = b.qual i' := rfl
@[simp] theorem Block.setVessel_get_reading (v) (x) (i' : Input) : (b.setVessel v x).reading i' = b.reading i' := rfl
@[simp] theorem Block.setVessel_get_clock (v) (x) : (b.setVessel v x).clock = b.clock := rfl
@[simp] theorem Block.setVessel_get_n (v) (x) : (b.setVessel v x).n = b.n := rfl
/-! ### setQueue -/
@[simp] theorem Block.setQueue_links (side) (x) : (b.setQueue side x).links = b.links := rfl
@[simp] theorem Block.setQueue_notices (side) (x) : (b.setQueue side x).notices = b.notices := rfl
@[simp] theorem Block.setQueue_cond (side) (x) : (b.setQueue side x).cond = b.cond := rfl
@[simp] theorem Block.setQueue_config (side) (x) : (b.setQueue side x).config = b.config := rfl
@[simp] theorem Block.setQueue_resetHeld (side) (x) : (b.setQueue side x).resetHeld = b.resetHeld := rfl
@[simp] theorem Block.setQueue_chambers (side) (x) : (b.setQueue side x).chambers = b.chambers := rfl
@[simp] theorem Block.setQueue_sections (side) (x) : (b.setQueue side x).sections = b.sections := rfl
@[simp] theorem Block.setQueue_tick (side) (x) : (b.setQueue side x).tick = b.tick := rfl
@[simp] theorem Block.setQueue_quals (side) (x) : (b.setQueue side x).quals = b.quals := rfl
@[simp] theorem Block.setQueue_timers (side) (x) : (b.setQueue side x).timers = b.timers := rfl
@[simp] theorem Block.setQueue_flasher (side) (x) : (b.setQueue side x).flasher = b.flasher := rfl
@[simp] theorem Block.setQueue_drives (side) (x) : (b.setQueue side x).drives = b.drives := rfl
@[simp] theorem Block.setQueue_lamps (side) (x) : (b.setQueue side x).lamps = b.lamps := rfl
@[simp] theorem Block.setQueue_vessels (side) (x) : (b.setQueue side x).vessels = b.vessels := rfl
@[simp] theorem Block.setQueue_lists (side) (x) : (b.setQueue side x).lists = b.lists := rfl
@[simp] theorem Block.setQueue_signals (side) (x) : (b.setQueue side x).signals = b.signals := rfl
@[simp] theorem Block.setQueue_tariff (side) (x) : (b.setQueue side x).tariff = b.tariff := rfl
@[simp] theorem Block.setQueue_acct (side) (x) : (b.setQueue side x).acct = b.acct := rfl
@[simp] theorem Block.setQueue_get_link (side) (x) (lk' : Link) : (b.setQueue side x).link lk' = b.link lk' := rfl
@[simp] theorem Block.setQueue_get_notice (side) (x) (lk' : Link) : (b.setQueue side x).notice lk' = b.notice lk' := rfl
@[simp] theorem Block.setQueue_get_chamber (side) (x) (c' : Fin 4) : (b.setQueue side x).chamber c' = b.chamber c' := rfl
@[simp] theorem Block.setQueue_get_sec (side) (x) (k' : Fin 5) : (b.setQueue side x).sec k' = b.sec k' := rfl
@[simp] theorem Block.setQueue_get_timer (side) (x) (k' : Fin 5) : (b.setQueue side x).timer k' = b.timer k' := rfl
@[simp] theorem Block.setQueue_get_drive (side) (x) (k' : Fin 5) : (b.setQueue side x).drive k' = b.drive k' := rfl
@[simp] theorem Block.setQueue_get_lamp (side) (x) (side' : Side) : (b.setQueue side x).lamp side' = b.lamp side' := rfl
@[simp] theorem Block.setQueue_get_vessel (side) (x) (v' : Fin 16) : (b.setQueue side x).vessel v' = b.vessel v' := rfl
@[simp] theorem Block.setQueue_get_list (side) (x) (c' : Fin 4) : (b.setQueue side x).list c' = b.list c' := rfl
@[simp] theorem Block.setQueue_get_signal (side) (x) (side' : Side) : (b.setQueue side x).signal side' = b.signal side' := rfl
@[simp] theorem Block.setQueue_get_meter (side) (x) (m' : Fin 8) : (b.setQueue side x).meter m' = b.meter m' := rfl
@[simp] theorem Block.setQueue_get_qual (side) (x) (i' : Input) : (b.setQueue side x).qual i' = b.qual i' := rfl
@[simp] theorem Block.setQueue_get_reading (side) (x) (i' : Input) : (b.setQueue side x).reading i' = b.reading i' := rfl
@[simp] theorem Block.setQueue_get_clock (side) (x) : (b.setQueue side x).clock = b.clock := rfl
@[simp] theorem Block.setQueue_get_n (side) (x) : (b.setQueue side x).n = b.n := rfl
/-! ### setList -/
@[simp] theorem Block.setList_links (c) (x) : (b.setList c x).links = b.links := rfl
@[simp] theorem Block.setList_notices (c) (x) : (b.setList c x).notices = b.notices := rfl
@[simp] theorem Block.setList_cond (c) (x) : (b.setList c x).cond = b.cond := rfl
@[simp] theorem Block.setList_config (c) (x) : (b.setList c x).config = b.config := rfl
@[simp] theorem Block.setList_resetHeld (c) (x) : (b.setList c x).resetHeld = b.resetHeld := rfl
@[simp] theorem Block.setList_chambers (c) (x) : (b.setList c x).chambers = b.chambers := rfl
@[simp] theorem Block.setList_sections (c) (x) : (b.setList c x).sections = b.sections := rfl
@[simp] theorem Block.setList_tick (c) (x) : (b.setList c x).tick = b.tick := rfl
@[simp] theorem Block.setList_quals (c) (x) : (b.setList c x).quals = b.quals := rfl
@[simp] theorem Block.setList_timers (c) (x) : (b.setList c x).timers = b.timers := rfl
@[simp] theorem Block.setList_flasher (c) (x) : (b.setList c x).flasher = b.flasher := rfl
@[simp] theorem Block.setList_drives (c) (x) : (b.setList c x).drives = b.drives := rfl
@[simp] theorem Block.setList_lamps (c) (x) : (b.setList c x).lamps = b.lamps := rfl
@[simp] theorem Block.setList_vessels (c) (x) : (b.setList c x).vessels = b.vessels := rfl
@[simp] theorem Block.setList_queues (c) (x) : (b.setList c x).queues = b.queues := rfl
@[simp] theorem Block.setList_signals (c) (x) : (b.setList c x).signals = b.signals := rfl
@[simp] theorem Block.setList_tariff (c) (x) : (b.setList c x).tariff = b.tariff := rfl
@[simp] theorem Block.setList_acct (c) (x) : (b.setList c x).acct = b.acct := rfl
@[simp] theorem Block.setList_get_link (c) (x) (lk' : Link) : (b.setList c x).link lk' = b.link lk' := rfl
@[simp] theorem Block.setList_get_notice (c) (x) (lk' : Link) : (b.setList c x).notice lk' = b.notice lk' := rfl
@[simp] theorem Block.setList_get_chamber (c) (x) (c' : Fin 4) : (b.setList c x).chamber c' = b.chamber c' := rfl
@[simp] theorem Block.setList_get_sec (c) (x) (k' : Fin 5) : (b.setList c x).sec k' = b.sec k' := rfl
@[simp] theorem Block.setList_get_timer (c) (x) (k' : Fin 5) : (b.setList c x).timer k' = b.timer k' := rfl
@[simp] theorem Block.setList_get_drive (c) (x) (k' : Fin 5) : (b.setList c x).drive k' = b.drive k' := rfl
@[simp] theorem Block.setList_get_lamp (c) (x) (side' : Side) : (b.setList c x).lamp side' = b.lamp side' := rfl
@[simp] theorem Block.setList_get_vessel (c) (x) (v' : Fin 16) : (b.setList c x).vessel v' = b.vessel v' := rfl
@[simp] theorem Block.setList_get_queue (c) (x) (side' : Side) : (b.setList c x).queue side' = b.queue side' := rfl
@[simp] theorem Block.setList_get_signal (c) (x) (side' : Side) : (b.setList c x).signal side' = b.signal side' := rfl
@[simp] theorem Block.setList_get_meter (c) (x) (m' : Fin 8) : (b.setList c x).meter m' = b.meter m' := rfl
@[simp] theorem Block.setList_get_qual (c) (x) (i' : Input) : (b.setList c x).qual i' = b.qual i' := rfl
@[simp] theorem Block.setList_get_reading (c) (x) (i' : Input) : (b.setList c x).reading i' = b.reading i' := rfl
@[simp] theorem Block.setList_get_clock (c) (x) : (b.setList c x).clock = b.clock := rfl
@[simp] theorem Block.setList_get_n (c) (x) : (b.setList c x).n = b.n := rfl
/-! ### setSignal -/
@[simp] theorem Block.setSignal_links (side) (x) : (b.setSignal side x).links = b.links := rfl
@[simp] theorem Block.setSignal_notices (side) (x) : (b.setSignal side x).notices = b.notices := rfl
@[simp] theorem Block.setSignal_cond (side) (x) : (b.setSignal side x).cond = b.cond := rfl
@[simp] theorem Block.setSignal_config (side) (x) : (b.setSignal side x).config = b.config := rfl
@[simp] theorem Block.setSignal_resetHeld (side) (x) : (b.setSignal side x).resetHeld = b.resetHeld := rfl
@[simp] theorem Block.setSignal_chambers (side) (x) : (b.setSignal side x).chambers = b.chambers := rfl
@[simp] theorem Block.setSignal_sections (side) (x) : (b.setSignal side x).sections = b.sections := rfl
@[simp] theorem Block.setSignal_tick (side) (x) : (b.setSignal side x).tick = b.tick := rfl
@[simp] theorem Block.setSignal_quals (side) (x) : (b.setSignal side x).quals = b.quals := rfl
@[simp] theorem Block.setSignal_timers (side) (x) : (b.setSignal side x).timers = b.timers := rfl
@[simp] theorem Block.setSignal_flasher (side) (x) : (b.setSignal side x).flasher = b.flasher := rfl
@[simp] theorem Block.setSignal_drives (side) (x) : (b.setSignal side x).drives = b.drives := rfl
@[simp] theorem Block.setSignal_lamps (side) (x) : (b.setSignal side x).lamps = b.lamps := rfl
@[simp] theorem Block.setSignal_vessels (side) (x) : (b.setSignal side x).vessels = b.vessels := rfl
@[simp] theorem Block.setSignal_queues (side) (x) : (b.setSignal side x).queues = b.queues := rfl
@[simp] theorem Block.setSignal_lists (side) (x) : (b.setSignal side x).lists = b.lists := rfl
@[simp] theorem Block.setSignal_tariff (side) (x) : (b.setSignal side x).tariff = b.tariff := rfl
@[simp] theorem Block.setSignal_acct (side) (x) : (b.setSignal side x).acct = b.acct := rfl
@[simp] theorem Block.setSignal_get_link (side) (x) (lk' : Link) : (b.setSignal side x).link lk' = b.link lk' := rfl
@[simp] theorem Block.setSignal_get_notice (side) (x) (lk' : Link) : (b.setSignal side x).notice lk' = b.notice lk' := rfl
@[simp] theorem Block.setSignal_get_chamber (side) (x) (c' : Fin 4) : (b.setSignal side x).chamber c' = b.chamber c' := rfl
@[simp] theorem Block.setSignal_get_sec (side) (x) (k' : Fin 5) : (b.setSignal side x).sec k' = b.sec k' := rfl
@[simp] theorem Block.setSignal_get_timer (side) (x) (k' : Fin 5) : (b.setSignal side x).timer k' = b.timer k' := rfl
@[simp] theorem Block.setSignal_get_drive (side) (x) (k' : Fin 5) : (b.setSignal side x).drive k' = b.drive k' := rfl
@[simp] theorem Block.setSignal_get_lamp (side) (x) (side' : Side) : (b.setSignal side x).lamp side' = b.lamp side' := rfl
@[simp] theorem Block.setSignal_get_vessel (side) (x) (v' : Fin 16) : (b.setSignal side x).vessel v' = b.vessel v' := rfl
@[simp] theorem Block.setSignal_get_queue (side) (x) (side' : Side) : (b.setSignal side x).queue side' = b.queue side' := rfl
@[simp] theorem Block.setSignal_get_list (side) (x) (c' : Fin 4) : (b.setSignal side x).list c' = b.list c' := rfl
@[simp] theorem Block.setSignal_get_meter (side) (x) (m' : Fin 8) : (b.setSignal side x).meter m' = b.meter m' := rfl
@[simp] theorem Block.setSignal_get_qual (side) (x) (i' : Input) : (b.setSignal side x).qual i' = b.qual i' := rfl
@[simp] theorem Block.setSignal_get_reading (side) (x) (i' : Input) : (b.setSignal side x).reading i' = b.reading i' := rfl
@[simp] theorem Block.setSignal_get_clock (side) (x) : (b.setSignal side x).clock = b.clock := rfl
@[simp] theorem Block.setSignal_get_n (side) (x) : (b.setSignal side x).n = b.n := rfl
/-! ### setTariff -/
@[simp] theorem Block.setTariff_links (x) : (b.setTariff x).links = b.links := rfl
@[simp] theorem Block.setTariff_notices (x) : (b.setTariff x).notices = b.notices := rfl
@[simp] theorem Block.setTariff_cond (x) : (b.setTariff x).cond = b.cond := rfl
@[simp] theorem Block.setTariff_config (x) : (b.setTariff x).config = b.config := rfl
@[simp] theorem Block.setTariff_resetHeld (x) : (b.setTariff x).resetHeld = b.resetHeld := rfl
@[simp] theorem Block.setTariff_chambers (x) : (b.setTariff x).chambers = b.chambers := rfl
@[simp] theorem Block.setTariff_sections (x) : (b.setTariff x).sections = b.sections := rfl
@[simp] theorem Block.setTariff_tick (x) : (b.setTariff x).tick = b.tick := rfl
@[simp] theorem Block.setTariff_quals (x) : (b.setTariff x).quals = b.quals := rfl
@[simp] theorem Block.setTariff_timers (x) : (b.setTariff x).timers = b.timers := rfl
@[simp] theorem Block.setTariff_flasher (x) : (b.setTariff x).flasher = b.flasher := rfl
@[simp] theorem Block.setTariff_drives (x) : (b.setTariff x).drives = b.drives := rfl
@[simp] theorem Block.setTariff_lamps (x) : (b.setTariff x).lamps = b.lamps := rfl
@[simp] theorem Block.setTariff_vessels (x) : (b.setTariff x).vessels = b.vessels := rfl
@[simp] theorem Block.setTariff_queues (x) : (b.setTariff x).queues = b.queues := rfl
@[simp] theorem Block.setTariff_lists (x) : (b.setTariff x).lists = b.lists := rfl
@[simp] theorem Block.setTariff_signals (x) : (b.setTariff x).signals = b.signals := rfl
@[simp] theorem Block.setTariff_acct (x) : (b.setTariff x).acct = b.acct := rfl
@[simp] theorem Block.setTariff_get_link (x) (lk' : Link) : (b.setTariff x).link lk' = b.link lk' := rfl
@[simp] theorem Block.setTariff_get_notice (x) (lk' : Link) : (b.setTariff x).notice lk' = b.notice lk' := rfl
@[simp] theorem Block.setTariff_get_chamber (x) (c' : Fin 4) : (b.setTariff x).chamber c' = b.chamber c' := rfl
@[simp] theorem Block.setTariff_get_sec (x) (k' : Fin 5) : (b.setTariff x).sec k' = b.sec k' := rfl
@[simp] theorem Block.setTariff_get_timer (x) (k' : Fin 5) : (b.setTariff x).timer k' = b.timer k' := rfl
@[simp] theorem Block.setTariff_get_drive (x) (k' : Fin 5) : (b.setTariff x).drive k' = b.drive k' := rfl
@[simp] theorem Block.setTariff_get_lamp (x) (side' : Side) : (b.setTariff x).lamp side' = b.lamp side' := rfl
@[simp] theorem Block.setTariff_get_vessel (x) (v' : Fin 16) : (b.setTariff x).vessel v' = b.vessel v' := rfl
@[simp] theorem Block.setTariff_get_queue (x) (side' : Side) : (b.setTariff x).queue side' = b.queue side' := rfl
@[simp] theorem Block.setTariff_get_list (x) (c' : Fin 4) : (b.setTariff x).list c' = b.list c' := rfl
@[simp] theorem Block.setTariff_get_signal (x) (side' : Side) : (b.setTariff x).signal side' = b.signal side' := rfl
@[simp] theorem Block.setTariff_get_meter (x) (m' : Fin 8) : (b.setTariff x).meter m' = b.meter m' := rfl
@[simp] theorem Block.setTariff_get_qual (x) (i' : Input) : (b.setTariff x).qual i' = b.qual i' := rfl
@[simp] theorem Block.setTariff_get_reading (x) (i' : Input) : (b.setTariff x).reading i' = b.reading i' := rfl
@[simp] theorem Block.setTariff_get_clock (x) : (b.setTariff x).clock = b.clock := rfl
@[simp] theorem Block.setTariff_get_n (x) : (b.setTariff x).n = b.n := rfl
/-! ### setAcct -/
@[simp] theorem Block.setAcct_links (x) : (b.setAcct x).links = b.links := rfl
@[simp] theorem Block.setAcct_notices (x) : (b.setAcct x).notices = b.notices := rfl
@[simp] theorem Block.setAcct_cond (x) : (b.setAcct x).cond = b.cond := rfl
@[simp] theorem Block.setAcct_config (x) : (b.setAcct x).config = b.config := rfl
@[simp] theorem Block.setAcct_resetHeld (x) : (b.setAcct x).resetHeld = b.resetHeld := rfl
@[simp] theorem Block.setAcct_chambers (x) : (b.setAcct x).chambers = b.chambers := rfl
@[simp] theorem Block.setAcct_sections (x) : (b.setAcct x).sections = b.sections := rfl
@[simp] theorem Block.setAcct_tick (x) : (b.setAcct x).tick = b.tick := rfl
@[simp] theorem Block.setAcct_quals (x) : (b.setAcct x).quals = b.quals := rfl
@[simp] theorem Block.setAcct_timers (x) : (b.setAcct x).timers = b.timers := rfl
@[simp] theorem Block.setAcct_flasher (x) : (b.setAcct x).flasher = b.flasher := rfl
@[simp] theorem Block.setAcct_drives (x) : (b.setAcct x).drives = b.drives := rfl
@[simp] theorem Block.setAcct_lamps (x) : (b.setAcct x).lamps = b.lamps := rfl
@[simp] theorem Block.setAcct_vessels (x) : (b.setAcct x).vessels = b.vessels := rfl
@[simp] theorem Block.setAcct_queues (x) : (b.setAcct x).queues = b.queues := rfl
@[simp] theorem Block.setAcct_lists (x) : (b.setAcct x).lists = b.lists := rfl
@[simp] theorem Block.setAcct_signals (x) : (b.setAcct x).signals = b.signals := rfl
@[simp] theorem Block.setAcct_tariff (x) : (b.setAcct x).tariff = b.tariff := rfl
@[simp] theorem Block.setAcct_get_link (x) (lk' : Link) : (b.setAcct x).link lk' = b.link lk' := rfl
@[simp] theorem Block.setAcct_get_notice (x) (lk' : Link) : (b.setAcct x).notice lk' = b.notice lk' := rfl
@[simp] theorem Block.setAcct_get_chamber (x) (c' : Fin 4) : (b.setAcct x).chamber c' = b.chamber c' := rfl
@[simp] theorem Block.setAcct_get_sec (x) (k' : Fin 5) : (b.setAcct x).sec k' = b.sec k' := rfl
@[simp] theorem Block.setAcct_get_timer (x) (k' : Fin 5) : (b.setAcct x).timer k' = b.timer k' := rfl
@[simp] theorem Block.setAcct_get_drive (x) (k' : Fin 5) : (b.setAcct x).drive k' = b.drive k' := rfl
@[simp] theorem Block.setAcct_get_lamp (x) (side' : Side) : (b.setAcct x).lamp side' = b.lamp side' := rfl
@[simp] theorem Block.setAcct_get_vessel (x) (v' : Fin 16) : (b.setAcct x).vessel v' = b.vessel v' := rfl
@[simp] theorem Block.setAcct_get_queue (x) (side' : Side) : (b.setAcct x).queue side' = b.queue side' := rfl
@[simp] theorem Block.setAcct_get_list (x) (c' : Fin 4) : (b.setAcct x).list c' = b.list c' := rfl
@[simp] theorem Block.setAcct_get_signal (x) (side' : Side) : (b.setAcct x).signal side' = b.signal side' := rfl
@[simp] theorem Block.setAcct_get_qual (x) (i' : Input) : (b.setAcct x).qual i' = b.qual i' := rfl
@[simp] theorem Block.setAcct_get_reading (x) (i' : Input) : (b.setAcct x).reading i' = b.reading i' := rfl
@[simp] theorem Block.setAcct_get_n (x) : (b.setAcct x).n = b.n := rfl
/-! ### setQual -/
@[simp] theorem Block.setQual_links (i) (x) : (b.setQual i x).links = b.links := rfl
@[simp] theorem Block.setQual_notices (i) (x) : (b.setQual i x).notices = b.notices := rfl
@[simp] theorem Block.setQual_cond (i) (x) : (b.setQual i x).cond = b.cond := rfl
@[simp] theorem Block.setQual_config (i) (x) : (b.setQual i x).config = b.config := rfl
@[simp] theorem Block.setQual_resetHeld (i) (x) : (b.setQual i x).resetHeld = b.resetHeld := rfl
@[simp] theorem Block.setQual_chambers (i) (x) : (b.setQual i x).chambers = b.chambers := rfl
@[simp] theorem Block.setQual_sections (i) (x) : (b.setQual i x).sections = b.sections := rfl
@[simp] theorem Block.setQual_tick (i) (x) : (b.setQual i x).tick = b.tick := rfl
@[simp] theorem Block.setQual_timers (i) (x) : (b.setQual i x).timers = b.timers := rfl
@[simp] theorem Block.setQual_flasher (i) (x) : (b.setQual i x).flasher = b.flasher := rfl
@[simp] theorem Block.setQual_drives (i) (x) : (b.setQual i x).drives = b.drives := rfl
@[simp] theorem Block.setQual_lamps (i) (x) : (b.setQual i x).lamps = b.lamps := rfl
@[simp] theorem Block.setQual_vessels (i) (x) : (b.setQual i x).vessels = b.vessels := rfl
@[simp] theorem Block.setQual_queues (i) (x) : (b.setQual i x).queues = b.queues := rfl
@[simp] theorem Block.setQual_lists (i) (x) : (b.setQual i x).lists = b.lists := rfl
@[simp] theorem Block.setQual_signals (i) (x) : (b.setQual i x).signals = b.signals := rfl
@[simp] theorem Block.setQual_tariff (i) (x) : (b.setQual i x).tariff = b.tariff := rfl
@[simp] theorem Block.setQual_acct (i) (x) : (b.setQual i x).acct = b.acct := rfl
@[simp] theorem Block.setQual_get_link (i) (x) (lk' : Link) : (b.setQual i x).link lk' = b.link lk' := rfl
@[simp] theorem Block.setQual_get_notice (i) (x) (lk' : Link) : (b.setQual i x).notice lk' = b.notice lk' := rfl
@[simp] theorem Block.setQual_get_chamber (i) (x) (c' : Fin 4) : (b.setQual i x).chamber c' = b.chamber c' := rfl
@[simp] theorem Block.setQual_get_sec (i) (x) (k' : Fin 5) : (b.setQual i x).sec k' = b.sec k' := rfl
@[simp] theorem Block.setQual_get_timer (i) (x) (k' : Fin 5) : (b.setQual i x).timer k' = b.timer k' := rfl
@[simp] theorem Block.setQual_get_drive (i) (x) (k' : Fin 5) : (b.setQual i x).drive k' = b.drive k' := rfl
@[simp] theorem Block.setQual_get_lamp (i) (x) (side' : Side) : (b.setQual i x).lamp side' = b.lamp side' := rfl
@[simp] theorem Block.setQual_get_vessel (i) (x) (v' : Fin 16) : (b.setQual i x).vessel v' = b.vessel v' := rfl
@[simp] theorem Block.setQual_get_queue (i) (x) (side' : Side) : (b.setQual i x).queue side' = b.queue side' := rfl
@[simp] theorem Block.setQual_get_list (i) (x) (c' : Fin 4) : (b.setQual i x).list c' = b.list c' := rfl
@[simp] theorem Block.setQual_get_signal (i) (x) (side' : Side) : (b.setQual i x).signal side' = b.signal side' := rfl
@[simp] theorem Block.setQual_get_meter (i) (x) (m' : Fin 8) : (b.setQual i x).meter m' = b.meter m' := rfl
@[simp] theorem Block.setQual_get_clock (i) (x) : (b.setQual i x).clock = b.clock := rfl
@[simp] theorem Block.setQual_get_n (i) (x) : (b.setQual i x).n = b.n := rfl
/-! ### raise -/
@[simp] theorem Block.raise_links (n) : (b.raise n).links = b.links := rfl
@[simp] theorem Block.raise_cond (n) : (b.raise n).cond = b.cond := rfl
@[simp] theorem Block.raise_config (n) : (b.raise n).config = b.config := rfl
@[simp] theorem Block.raise_resetHeld (n) : (b.raise n).resetHeld = b.resetHeld := rfl
@[simp] theorem Block.raise_chambers (n) : (b.raise n).chambers = b.chambers := rfl
@[simp] theorem Block.raise_sections (n) : (b.raise n).sections = b.sections := rfl
@[simp] theorem Block.raise_tick (n) : (b.raise n).tick = b.tick := rfl
@[simp] theorem Block.raise_quals (n) : (b.raise n).quals = b.quals := rfl
@[simp] theorem Block.raise_timers (n) : (b.raise n).timers = b.timers := rfl
@[simp] theorem Block.raise_flasher (n) : (b.raise n).flasher = b.flasher := rfl
@[simp] theorem Block.raise_drives (n) : (b.raise n).drives = b.drives := rfl
@[simp] theorem Block.raise_lamps (n) : (b.raise n).lamps = b.lamps := rfl
@[simp] theorem Block.raise_vessels (n) : (b.raise n).vessels = b.vessels := rfl
@[simp] theorem Block.raise_queues (n) : (b.raise n).queues = b.queues := rfl
@[simp] theorem Block.raise_lists (n) : (b.raise n).lists = b.lists := rfl
@[simp] theorem Block.raise_signals (n) : (b.raise n).signals = b.signals := rfl
@[simp] theorem Block.raise_tariff (n) : (b.raise n).tariff = b.tariff := rfl
@[simp] theorem Block.raise_acct (n) : (b.raise n).acct = b.acct := rfl
@[simp] theorem Block.raise_get_link (n) (lk' : Link) : (b.raise n).link lk' = b.link lk' := rfl
@[simp] theorem Block.raise_get_chamber (n) (c' : Fin 4) : (b.raise n).chamber c' = b.chamber c' := rfl
@[simp] theorem Block.raise_get_sec (n) (k' : Fin 5) : (b.raise n).sec k' = b.sec k' := rfl
@[simp] theorem Block.raise_get_timer (n) (k' : Fin 5) : (b.raise n).timer k' = b.timer k' := rfl
@[simp] theorem Block.raise_get_drive (n) (k' : Fin 5) : (b.raise n).drive k' = b.drive k' := rfl
@[simp] theorem Block.raise_get_lamp (n) (side' : Side) : (b.raise n).lamp side' = b.lamp side' := rfl
@[simp] theorem Block.raise_get_vessel (n) (v' : Fin 16) : (b.raise n).vessel v' = b.vessel v' := rfl
@[simp] theorem Block.raise_get_queue (n) (side' : Side) : (b.raise n).queue side' = b.queue side' := rfl
@[simp] theorem Block.raise_get_list (n) (c' : Fin 4) : (b.raise n).list c' = b.list c' := rfl
@[simp] theorem Block.raise_get_signal (n) (side' : Side) : (b.raise n).signal side' = b.signal side' := rfl
@[simp] theorem Block.raise_get_meter (n) (m' : Fin 8) : (b.raise n).meter m' = b.meter m' := rfl
@[simp] theorem Block.raise_get_qual (n) (i' : Input) : (b.raise n).qual i' = b.qual i' := rfl
@[simp] theorem Block.raise_get_reading (n) (i' : Input) : (b.raise n).reading i' = b.reading i' := rfl
@[simp] theorem Block.raise_get_clock (n) : (b.raise n).clock = b.clock := rfl
@[simp] theorem Block.raise_get_n (n) : (b.raise n).n = b.n := rfl
/-! ### setMeter -/
@[simp] theorem Block.setMeter_links (m) (x) : (b.setMeter m x).links = b.links := rfl
@[simp] theorem Block.setMeter_notices (m) (x) : (b.setMeter m x).notices = b.notices := rfl
@[simp] theorem Block.setMeter_cond (m) (x) : (b.setMeter m x).cond = b.cond := rfl
@[simp] theorem Block.setMeter_config (m) (x) : (b.setMeter m x).config = b.config := rfl
@[simp] theorem Block.setMeter_resetHeld (m) (x) : (b.setMeter m x).resetHeld = b.resetHeld := rfl
@[simp] theorem Block.setMeter_chambers (m) (x) : (b.setMeter m x).chambers = b.chambers := rfl
@[simp] theorem Block.setMeter_sections (m) (x) : (b.setMeter m x).sections = b.sections := rfl
@[simp] theorem Block.setMeter_tick (m) (x) : (b.setMeter m x).tick = b.tick := rfl
@[simp] theorem Block.setMeter_quals (m) (x) : (b.setMeter m x).quals = b.quals := rfl
@[simp] theorem Block.setMeter_timers (m) (x) : (b.setMeter m x).timers = b.timers := rfl
@[simp] theorem Block.setMeter_flasher (m) (x) : (b.setMeter m x).flasher = b.flasher := rfl
@[simp] theorem Block.setMeter_drives (m) (x) : (b.setMeter m x).drives = b.drives := rfl
@[simp] theorem Block.setMeter_lamps (m) (x) : (b.setMeter m x).lamps = b.lamps := rfl
@[simp] theorem Block.setMeter_vessels (m) (x) : (b.setMeter m x).vessels = b.vessels := rfl
@[simp] theorem Block.setMeter_queues (m) (x) : (b.setMeter m x).queues = b.queues := rfl
@[simp] theorem Block.setMeter_lists (m) (x) : (b.setMeter m x).lists = b.lists := rfl
@[simp] theorem Block.setMeter_signals (m) (x) : (b.setMeter m x).signals = b.signals := rfl
@[simp] theorem Block.setMeter_tariff (m) (x) : (b.setMeter m x).tariff = b.tariff := rfl
@[simp] theorem Block.setMeter_get_link (m) (x) (lk' : Link) : (b.setMeter m x).link lk' = b.link lk' := rfl
@[simp] theorem Block.setMeter_get_notice (m) (x) (lk' : Link) : (b.setMeter m x).notice lk' = b.notice lk' := rfl
@[simp] theorem Block.setMeter_get_chamber (m) (x) (c' : Fin 4) : (b.setMeter m x).chamber c' = b.chamber c' := rfl
@[simp] theorem Block.setMeter_get_sec (m) (x) (k' : Fin 5) : (b.setMeter m x).sec k' = b.sec k' := rfl
@[simp] theorem Block.setMeter_get_timer (m) (x) (k' : Fin 5) : (b.setMeter m x).timer k' = b.timer k' := rfl
@[simp] theorem Block.setMeter_get_drive (m) (x) (k' : Fin 5) : (b.setMeter m x).drive k' = b.drive k' := rfl
@[simp] theorem Block.setMeter_get_lamp (m) (x) (side' : Side) : (b.setMeter m x).lamp side' = b.lamp side' := rfl
@[simp] theorem Block.setMeter_get_vessel (m) (x) (v' : Fin 16) : (b.setMeter m x).vessel v' = b.vessel v' := rfl
@[simp] theorem Block.setMeter_get_queue (m) (x) (side' : Side) : (b.setMeter m x).queue side' = b.queue side' := rfl
@[simp] theorem Block.setMeter_get_list (m) (x) (c' : Fin 4) : (b.setMeter m x).list c' = b.list c' := rfl
@[simp] theorem Block.setMeter_get_signal (m) (x) (side' : Side) : (b.setMeter m x).signal side' = b.signal side' := rfl
@[simp] theorem Block.setMeter_get_qual (m) (x) (i' : Input) : (b.setMeter m x).qual i' = b.qual i' := rfl
@[simp] theorem Block.setMeter_get_reading (m) (x) (i' : Input) : (b.setMeter m x).reading i' = b.reading i' := rfl
@[simp] theorem Block.setMeter_get_n (m) (x) : (b.setMeter m x).n = b.n := rfl
/-! ### latch -/
@[simp] theorem Block.latch_links (k) (set) (reset) : (b.latch k set reset).links = b.links := rfl
@[simp] theorem Block.latch_notices (k) (set) (reset) : (b.latch k set reset).notices = b.notices := rfl
@[simp] theorem Block.latch_cond (k) (set) (reset) : (b.latch k set reset).cond = b.cond := rfl
@[simp] theorem Block.latch_config (k) (set) (reset) : (b.latch k set reset).config = b.config := rfl
@[simp] theorem Block.latch_resetHeld (k) (set) (reset) : (b.latch k set reset).resetHeld = b.resetHeld := rfl
@[simp] theorem Block.latch_chambers (k) (set) (reset) : (b.latch k set reset).chambers = b.chambers := rfl
@[simp] theorem Block.latch_sections (k) (set) (reset) : (b.latch k set reset).sections = b.sections := rfl
@[simp] theorem Block.latch_tick (k) (set) (reset) : (b.latch k set reset).tick = b.tick := rfl
@[simp] theorem Block.latch_quals (k) (set) (reset) : (b.latch k set reset).quals = b.quals := rfl
@[simp] theorem Block.latch_timers (k) (set) (reset) : (b.latch k set reset).timers = b.timers := rfl
@[simp] theorem Block.latch_flasher (k) (set) (reset) : (b.latch k set reset).flasher = b.flasher := rfl
@[simp] theorem Block.latch_lamps (k) (set) (reset) : (b.latch k set reset).lamps = b.lamps := rfl
@[simp] theorem Block.latch_vessels (k) (set) (reset) : (b.latch k set reset).vessels = b.vessels := rfl
@[simp] theorem Block.latch_queues (k) (set) (reset) : (b.latch k set reset).queues = b.queues := rfl
@[simp] theorem Block.latch_lists (k) (set) (reset) : (b.latch k set reset).lists = b.lists := rfl
@[simp] theorem Block.latch_signals (k) (set) (reset) : (b.latch k set reset).signals = b.signals := rfl
@[simp] theorem Block.latch_tariff (k) (set) (reset) : (b.latch k set reset).tariff = b.tariff := rfl
@[simp] theorem Block.latch_acct (k) (set) (reset) : (b.latch k set reset).acct = b.acct := rfl
@[simp] theorem Block.latch_get_link (k) (set) (reset) (lk' : Link) : (b.latch k set reset).link lk' = b.link lk' := rfl
@[simp] theorem Block.latch_get_notice (k) (set) (reset) (lk' : Link) : (b.latch k set reset).notice lk' = b.notice lk' := rfl
@[simp] theorem Block.latch_get_chamber (k) (set) (reset) (c' : Fin 4) : (b.latch k set reset).chamber c' = b.chamber c' := rfl
@[simp] theorem Block.latch_get_sec (k) (set) (reset) (k' : Fin 5) : (b.latch k set reset).sec k' = b.sec k' := rfl
@[simp] theorem Block.latch_get_timer (k) (set) (reset) (k' : Fin 5) : (b.latch k set reset).timer k' = b.timer k' := rfl
@[simp] theorem Block.latch_get_lamp (k) (set) (reset) (side' : Side) : (b.latch k set reset).lamp side' = b.lamp side' := rfl
@[simp] theorem Block.latch_get_vessel (k) (set) (reset) (v' : Fin 16) : (b.latch k set reset).vessel v' = b.vessel v' := rfl
@[simp] theorem Block.latch_get_queue (k) (set) (reset) (side' : Side) : (b.latch k set reset).queue side' = b.queue side' := rfl
@[simp] theorem Block.latch_get_list (k) (set) (reset) (c' : Fin 4) : (b.latch k set reset).list c' = b.list c' := rfl
@[simp] theorem Block.latch_get_signal (k) (set) (reset) (side' : Side) : (b.latch k set reset).signal side' = b.signal side' := rfl
@[simp] theorem Block.latch_get_meter (k) (set) (reset) (m' : Fin 8) : (b.latch k set reset).meter m' = b.meter m' := rfl
@[simp] theorem Block.latch_get_qual (k) (set) (reset) (i' : Input) : (b.latch k set reset).qual i' = b.qual i' := rfl
@[simp] theorem Block.latch_get_reading (k) (set) (reset) (i' : Input) : (b.latch k set reset).reading i' = b.reading i' := rfl
@[simp] theorem Block.latch_get_clock (k) (set) (reset) : (b.latch k set reset).clock = b.clock := rfl
@[simp] theorem Block.latch_get_n (k) (set) (reset) : (b.latch k set reset).n = b.n := rfl
/-! ### reply -/
@[simp] theorem Block.reply_notices (lk) (f) : (b.reply lk f).notices = b.notices := rfl
@[simp] theorem Block.reply_cond (lk) (f) : (b.reply lk f).cond = b.cond := rfl
@[simp] theorem Block.reply_config (lk) (f) : (b.reply lk f).config = b.config := rfl
@[simp] theorem Block.reply_resetHeld (lk) (f) : (b.reply lk f).resetHeld = b.resetHeld := rfl
@[simp] theorem Block.reply_chambers (lk) (f) : (b.reply lk f).chambers = b.chambers := rfl
@[simp] theorem Block.reply_sections (lk) (f) : (b.reply lk f).sections = b.sections := rfl
@[simp] theorem Block.reply_tick (lk) (f) : (b.reply lk f).tick = b.tick := rfl
@[simp] theorem Block.reply_quals (lk) (f) : (b.reply lk f).quals = b.quals := rfl
@[simp] theorem Block.reply_timers (lk) (f) : (b.reply lk f).timers = b.timers := rfl
@[simp] theorem Block.reply_flasher (lk) (f) : (b.reply lk f).flasher = b.flasher := rfl
@[simp] theorem Block.reply_drives (lk) (f) : (b.reply lk f).drives = b.drives := rfl
@[simp] theorem Block.reply_lamps (lk) (f) : (b.reply lk f).lamps = b.lamps := rfl
@[simp] theorem Block.reply_vessels (lk) (f) : (b.reply lk f).vessels = b.vessels := rfl
@[simp] theorem Block.reply_queues (lk) (f) : (b.reply lk f).queues = b.queues := rfl
@[simp] theorem Block.reply_lists (lk) (f) : (b.reply lk f).lists = b.lists := rfl
@[simp] theorem Block.reply_signals (lk) (f) : (b.reply lk f).signals = b.signals := rfl
@[simp] theorem Block.reply_tariff (lk) (f) : (b.reply lk f).tariff = b.tariff := rfl
@[simp] theorem Block.reply_acct (lk) (f) : (b.reply lk f).acct = b.acct := rfl
@[simp] theorem Block.reply_get_notice (lk) (f) (lk' : Link) : (b.reply lk f).notice lk' = b.notice lk' := rfl
@[simp] theorem Block.reply_get_chamber (lk) (f) (c' : Fin 4) : (b.reply lk f).chamber c' = b.chamber c' := rfl
@[simp] theorem Block.reply_get_sec (lk) (f) (k' : Fin 5) : (b.reply lk f).sec k' = b.sec k' := rfl
@[simp] theorem Block.reply_get_timer (lk) (f) (k' : Fin 5) : (b.reply lk f).timer k' = b.timer k' := rfl
@[simp] theorem Block.reply_get_drive (lk) (f) (k' : Fin 5) : (b.reply lk f).drive k' = b.drive k' := rfl
@[simp] theorem Block.reply_get_lamp (lk) (f) (side' : Side) : (b.reply lk f).lamp side' = b.lamp side' := rfl
@[simp] theorem Block.reply_get_vessel (lk) (f) (v' : Fin 16) : (b.reply lk f).vessel v' = b.vessel v' := rfl
@[simp] theorem Block.reply_get_queue (lk) (f) (side' : Side) : (b.reply lk f).queue side' = b.queue side' := rfl
@[simp] theorem Block.reply_get_list (lk) (f) (c' : Fin 4) : (b.reply lk f).list c' = b.list c' := rfl
@[simp] theorem Block.reply_get_signal (lk) (f) (side' : Side) : (b.reply lk f).signal side' = b.signal side' := rfl
@[simp] theorem Block.reply_get_meter (lk) (f) (m' : Fin 8) : (b.reply lk f).meter m' = b.meter m' := rfl
@[simp] theorem Block.reply_get_qual (lk) (f) (i' : Input) : (b.reply lk f).qual i' = b.qual i' := rfl
@[simp] theorem Block.reply_get_reading (lk) (f) (i' : Input) : (b.reply lk f).reading i' = b.reading i' := rfl
@[simp] theorem Block.reply_get_clock (lk) (f) : (b.reply lk f).clock = b.clock := rfl
@[simp] theorem Block.reply_get_n (lk) (f) : (b.reply lk f).n = b.n := rfl
/-! ### queueReply -/
@[simp] theorem Block.queueReply_notices (lk) (f) : (b.queueReply lk f).notices = b.notices := rfl
@[simp] theorem Block.queueReply_cond (lk) (f) : (b.queueReply lk f).cond = b.cond := rfl
@[simp] theorem Block.queueReply_config (lk) (f) : (b.queueReply lk f).config = b.config := rfl
@[simp] theorem Block.queueReply_resetHeld (lk) (f) : (b.queueReply lk f).resetHeld = b.resetHeld := rfl
@[simp] theorem Block.queueReply_chambers (lk) (f) : (b.queueReply lk f).chambers = b.chambers := rfl
@[simp] theorem Block.queueReply_sections (lk) (f) : (b.queueReply lk f).sections = b.sections := rfl
@[simp] theorem Block.queueReply_tick (lk) (f) : (b.queueReply lk f).tick = b.tick := rfl
@[simp] theorem Block.queueReply_quals (lk) (f) : (b.queueReply lk f).quals = b.quals := rfl
@[simp] theorem Block.queueReply_timers (lk) (f) : (b.queueReply lk f).timers = b.timers := rfl
@[simp] theorem Block.queueReply_flasher (lk) (f) : (b.queueReply lk f).flasher = b.flasher := rfl
@[simp] theorem Block.queueReply_drives (lk) (f) : (b.queueReply lk f).drives = b.drives := rfl
@[simp] theorem Block.queueReply_lamps (lk) (f) : (b.queueReply lk f).lamps = b.lamps := rfl
@[simp] theorem Block.queueReply_vessels (lk) (f) : (b.queueReply lk f).vessels = b.vessels := rfl
@[simp] theorem Block.queueReply_queues (lk) (f) : (b.queueReply lk f).queues = b.queues := rfl
@[simp] theorem Block.queueReply_lists (lk) (f) : (b.queueReply lk f).lists = b.lists := rfl
@[simp] theorem Block.queueReply_signals (lk) (f) : (b.queueReply lk f).signals = b.signals := rfl
@[simp] theorem Block.queueReply_tariff (lk) (f) : (b.queueReply lk f).tariff = b.tariff := rfl
@[simp] theorem Block.queueReply_acct (lk) (f) : (b.queueReply lk f).acct = b.acct := rfl
@[simp] theorem Block.queueReply_get_notice (lk) (f) (lk' : Link) : (b.queueReply lk f).notice lk' = b.notice lk' := rfl
@[simp] theorem Block.queueReply_get_chamber (lk) (f) (c' : Fin 4) : (b.queueReply lk f).chamber c' = b.chamber c' := rfl
@[simp] theorem Block.queueReply_get_sec (lk) (f) (k' : Fin 5) : (b.queueReply lk f).sec k' = b.sec k' := rfl
@[simp] theorem Block.queueReply_get_timer (lk) (f) (k' : Fin 5) : (b.queueReply lk f).timer k' = b.timer k' := rfl
@[simp] theorem Block.queueReply_get_drive (lk) (f) (k' : Fin 5) : (b.queueReply lk f).drive k' = b.drive k' := rfl
@[simp] theorem Block.queueReply_get_lamp (lk) (f) (side' : Side) : (b.queueReply lk f).lamp side' = b.lamp side' := rfl
@[simp] theorem Block.queueReply_get_vessel (lk) (f) (v' : Fin 16) : (b.queueReply lk f).vessel v' = b.vessel v' := rfl
@[simp] theorem Block.queueReply_get_queue (lk) (f) (side' : Side) : (b.queueReply lk f).queue side' = b.queue side' := rfl
@[simp] theorem Block.queueReply_get_list (lk) (f) (c' : Fin 4) : (b.queueReply lk f).list c' = b.list c' := rfl
@[simp] theorem Block.queueReply_get_signal (lk) (f) (side' : Side) : (b.queueReply lk f).signal side' = b.signal side' := rfl
@[simp] theorem Block.queueReply_get_meter (lk) (f) (m' : Fin 8) : (b.queueReply lk f).meter m' = b.meter m' := rfl
@[simp] theorem Block.queueReply_get_qual (lk) (f) (i' : Input) : (b.queueReply lk f).qual i' = b.qual i' := rfl
@[simp] theorem Block.queueReply_get_reading (lk) (f) (i' : Input) : (b.queueReply lk f).reading i' = b.reading i' := rfl
@[simp] theorem Block.queueReply_get_clock (lk) (f) : (b.queueReply lk f).clock = b.clock := rfl
@[simp] theorem Block.queueReply_get_n (lk) (f) : (b.queueReply lk f).n = b.n := rfl
/-! ### markInHand -/
@[simp] theorem Block.markInHand_notices (lk) : (b.markInHand lk).notices = b.notices := rfl
@[simp] theorem Block.markInHand_cond (lk) : (b.markInHand lk).cond = b.cond := rfl
@[simp] theorem Block.markInHand_config (lk) : (b.markInHand lk).config = b.config := rfl
@[simp] theorem Block.markInHand_resetHeld (lk) : (b.markInHand lk).resetHeld = b.resetHeld := rfl
@[simp] theorem Block.markInHand_chambers (lk) : (b.markInHand lk).chambers = b.chambers := rfl
@[simp] theorem Block.markInHand_sections (lk) : (b.markInHand lk).sections = b.sections := rfl
@[simp] theorem Block.markInHand_tick (lk) : (b.markInHand lk).tick = b.tick := rfl
@[simp] theorem Block.markInHand_quals (lk) : (b.markInHand lk).quals = b.quals := rfl
@[simp] theorem Block.markInHand_timers (lk) : (b.markInHand lk).timers = b.timers := rfl
@[simp] theorem Block.markInHand_flasher (lk) : (b.markInHand lk).flasher = b.flasher := rfl
@[simp] theorem Block.markInHand_drives (lk) : (b.markInHand lk).drives = b.drives := rfl
@[simp] theorem Block.markInHand_lamps (lk) : (b.markInHand lk).lamps = b.lamps := rfl
@[simp] theorem Block.markInHand_vessels (lk) : (b.markInHand lk).vessels = b.vessels := rfl
@[simp] theorem Block.markInHand_queues (lk) : (b.markInHand lk).queues = b.queues := rfl
@[simp] theorem Block.markInHand_lists (lk) : (b.markInHand lk).lists = b.lists := rfl
@[simp] theorem Block.markInHand_signals (lk) : (b.markInHand lk).signals = b.signals := rfl
@[simp] theorem Block.markInHand_tariff (lk) : (b.markInHand lk).tariff = b.tariff := rfl
@[simp] theorem Block.markInHand_acct (lk) : (b.markInHand lk).acct = b.acct := rfl
@[simp] theorem Block.markInHand_get_notice (lk) (lk' : Link) : (b.markInHand lk).notice lk' = b.notice lk' := rfl
@[simp] theorem Block.markInHand_get_chamber (lk) (c' : Fin 4) : (b.markInHand lk).chamber c' = b.chamber c' := rfl
@[simp] theorem Block.markInHand_get_sec (lk) (k' : Fin 5) : (b.markInHand lk).sec k' = b.sec k' := rfl
@[simp] theorem Block.markInHand_get_timer (lk) (k' : Fin 5) : (b.markInHand lk).timer k' = b.timer k' := rfl
@[simp] theorem Block.markInHand_get_drive (lk) (k' : Fin 5) : (b.markInHand lk).drive k' = b.drive k' := rfl
@[simp] theorem Block.markInHand_get_lamp (lk) (side' : Side) : (b.markInHand lk).lamp side' = b.lamp side' := rfl
@[simp] theorem Block.markInHand_get_vessel (lk) (v' : Fin 16) : (b.markInHand lk).vessel v' = b.vessel v' := rfl
@[simp] theorem Block.markInHand_get_queue (lk) (side' : Side) : (b.markInHand lk).queue side' = b.queue side' := rfl
@[simp] theorem Block.markInHand_get_list (lk) (c' : Fin 4) : (b.markInHand lk).list c' = b.list c' := rfl
@[simp] theorem Block.markInHand_get_signal (lk) (side' : Side) : (b.markInHand lk).signal side' = b.signal side' := rfl
@[simp] theorem Block.markInHand_get_meter (lk) (m' : Fin 8) : (b.markInHand lk).meter m' = b.meter m' := rfl
@[simp] theorem Block.markInHand_get_qual (lk) (i' : Input) : (b.markInHand lk).qual i' = b.qual i' := rfl
@[simp] theorem Block.markInHand_get_reading (lk) (i' : Input) : (b.markInHand lk).reading i' = b.reading i' := rfl
@[simp] theorem Block.markInHand_get_clock (lk) : (b.markInHand lk).clock = b.clock := rfl
@[simp] theorem Block.markInHand_get_n (lk) : (b.markInHand lk).n = b.n := rfl
/-! ### what each update writes -/
@[simp] theorem Block.setSec_sec (k x) : (b.setSec k x).sec k = x := by simp [Block.setSec, Block.sec]
theorem Block.setSec_sec_ne (k j x) (h : j ≠ k) : (b.setSec k x).sec j = b.sec j := by
  simp only [Block.setSec, Block.sec, Fin.getElem_fin]; exact Vector.getElem_set_ne _ _ (fun e => h (Fin.ext e.symm))
@[simp] theorem Block.setTimer_timer (k x) : (b.setTimer k x).timer k = x := by simp [Block.setTimer, Block.timer]
theorem Block.setTimer_timer_ne (k j x) (h : j ≠ k) : (b.setTimer k x).timer j = b.timer j := by
  simp only [Block.setTimer, Block.timer, Fin.getElem_fin]; exact Vector.getElem_set_ne _ _ (fun e => h (Fin.ext e.symm))
@[simp] theorem Block.setDrive_drive (k x) : (b.setDrive k x).drive k = x := by simp [Block.setDrive, Block.drive]
theorem Block.setDrive_drive_ne (k j x) (h : j ≠ k) : (b.setDrive k x).drive j = b.drive j := by
  simp only [Block.setDrive, Block.drive, Fin.getElem_fin]; exact Vector.getElem_set_ne _ _ (fun e => h (Fin.ext e.symm))
@[simp] theorem Block.setChamber_chamber (c x) : (b.setChamber c x).chamber c = x := by simp [Block.setChamber, Block.chamber]
theorem Block.setChamber_chamber_ne (c j x) (h : j ≠ c) : (b.setChamber c x).chamber j = b.chamber j := by
  simp only [Block.setChamber, Block.chamber, Fin.getElem_fin]; exact Vector.getElem_set_ne _ _ (fun e => h (Fin.ext e.symm))
@[simp] theorem Block.setVessel_vessel (v x) : (b.setVessel v x).vessel v = x := by simp [Block.setVessel, Block.vessel]
theorem Block.setVessel_vessel_ne (v j x) (h : j ≠ v) : (b.setVessel v x).vessel j = b.vessel j := by
  simp only [Block.setVessel, Block.vessel, Fin.getElem_fin]; exact Vector.getElem_set_ne _ _ (fun e => h (Fin.ext e.symm))
@[simp] theorem Block.setList_list (c x) : (b.setList c x).list c = x := by simp [Block.setList, Block.list]
theorem Block.setList_list_ne (c j x) (h : j ≠ c) : (b.setList c x).list j = b.list j := by
  simp only [Block.setList, Block.list, Fin.getElem_fin]; exact Vector.getElem_set_ne _ _ (fun e => h (Fin.ext e.symm))
@[simp] theorem Block.setLink_link (lk x) : (b.setLink lk x).link lk = x := by cases lk <;> rfl
theorem Block.setLink_link_ne (lk j x) (h : j ≠ lk) : (b.setLink lk x).link j = b.link j := by cases lk <;> cases j <;> first | rfl | exact absurd rfl h
@[simp] theorem Block.setNotice_notice (lk x) : (b.setNotice lk x).notice lk = x := by cases lk <;> rfl
theorem Block.setNotice_notice_ne (lk j x) (h : j ≠ lk) : (b.setNotice lk x).notice j = b.notice j := by cases lk <;> cases j <;> first | rfl | exact absurd rfl h
@[simp] theorem Block.setLamp_lamp (side x) : (b.setLamp side x).lamp side = x := by cases side <;> rfl
theorem Block.setLamp_lamp_ne (side j x) (h : j ≠ side) : (b.setLamp side x).lamp j = b.lamp j := by cases side <;> cases j <;> first | rfl | exact absurd rfl h
@[simp] theorem Block.setQueue_queue (side x) : (b.setQueue side x).queue side = x := by cases side <;> rfl
theorem Block.setQueue_queue_ne (side j x) (h : j ≠ side) : (b.setQueue side x).queue j = b.queue j := by cases side <;> cases j <;> first | rfl | exact absurd rfl h
@[simp] theorem Block.setSignal_signal (side x) : (b.setSignal side x).signal side = x := by cases side <;> rfl
theorem Block.setSignal_signal_ne (side j x) (h : j ≠ side) : (b.setSignal side x).signal j = b.signal j := by cases side <;> cases j <;> first | rfl | exact absurd rfl h
@[simp] theorem Block.setCond_cond_self (x) : (b.setCond x).cond = x := rfl
@[simp] theorem Block.setConfig_config_self (x) : (b.setConfig x).config = x := rfl
@[simp] theorem Block.setHeld_resetHeld_self (x) : (b.setHeld x).resetHeld = x := rfl
@[simp] theorem Block.setTick_tick_self (x) : (b.setTick x).tick = x := rfl
@[simp] theorem Block.setFlasher_flasher_self (x) : (b.setFlasher x).flasher = x := rfl
@[simp] theorem Block.setTariff_tariff_self (x) : (b.setTariff x).tariff = x := rfl
@[simp] theorem Block.setAcct_acct_self (x) : (b.setAcct x).acct = x := rfl
@[simp] theorem Block.setMeter_meter (m x) : (b.setMeter m x).meter m = x := by simp [Block.setMeter, Block.meter]
@[simp] theorem Block.setQual_qual (i x) : (b.setQual i x).qual i = x := by simp [Block.setQual, Block.qual]
/-- Every update answers a next state that keeps the queue of commands. -/
@[simp] theorem Machine.State.act_next (s : Machine.State) (f : Block → Block) : s.act f = .next { s with toBlock := f s.toBlock } := rfl

end Sys2Proof
end

