-- ==== Sys2Proof/Laws/Ops.lean ====
section
/-! SUPPORT. What each shared operation can touch: `b.keeps b' parts` says that b' differs from b in the listed parts only. -/

set_option linter.unusedTactic false
namespace Sys2Proof

/-- The parts of the block: its fields. -/
inductive Part where
  | links | notices | cond | config | resetHeld | chambers | sections | tick | quals | timers | flasher | drives | lamps | vessels | queues | lists | signals | tariff | acct
deriving DecidableEq, Repr

/-- Whether a part of two blocks is the same. -/
def Part.same (p : Part) (b b' : Block) : Prop :=
  match p with
  | .links => b'.links = b.links
  | .notices => b'.notices = b.notices
  | .cond => b'.cond = b.cond
  | .config => b'.config = b.config
  | .resetHeld => b'.resetHeld = b.resetHeld
  | .chambers => b'.chambers = b.chambers
  | .sections => b'.sections = b.sections
  | .tick => b'.tick = b.tick
  | .quals => b'.quals = b.quals
  | .timers => b'.timers = b.timers
  | .flasher => b'.flasher = b.flasher
  | .drives => b'.drives = b.drives
  | .lamps => b'.lamps = b.lamps
  | .vessels => b'.vessels = b.vessels
  | .queues => b'.queues = b.queues
  | .lists => b'.lists = b.lists
  | .signals => b'.signals = b.signals
  | .tariff => b'.tariff = b.tariff
  | .acct => b'.acct = b.acct

/-- b' differs from b in the listed parts only. -/
structure Block.keeps (b b' : Block) (parts : List Part) : Prop where
  only : ∀ p, p ∉ parts → p.same b b'

theorem Part.same_refl (p : Part) (b : Block) : p.same b b := by cases p <;> rfl

theorem Part.same_trans {p : Part} {b b' b'' : Block} (h : p.same b b') (h' : p.same b' b'') : p.same b b'' := by
  cases p <;> exact Eq.trans h' h

theorem Block.keeps_refl (b : Block) (parts : List Part) : b.keeps b parts := ⟨fun p _ => p.same_refl b⟩

theorem Block.keeps.trans {b b' b'' : Block} {parts : List Part} (h : b.keeps b' parts) (h' : b'.keeps b'' parts) : b.keeps b'' parts :=
  ⟨fun p hp => Part.same_trans (h.only p hp) (h'.only p hp)⟩

theorem Block.keeps.mono {b b' : Block} {parts more : List Part} (h : b.keeps b' parts) (hs : ∀ p ∈ parts, p ∈ more) : b.keeps b' more :=
  ⟨fun p hp => h.only p (fun hp' => hp (hs p hp'))⟩

/-- One more operation behind a chain: the rule every lemma below is built with. -/
theorem Block.keeps.step {b b' b'' : Block} {parts more : List Part} (h : b.keeps b' more) (h' : b'.keeps b'' parts)
    (hs : (parts.all fun p => more.contains p) = true) : b.keeps b'' more :=
  h.trans (h'.mono (by simpa using hs))

theorem keeps_foldl {α : Type} {f : Block → α → Block} {parts : List Part} (h : ∀ (b : Block) a, b.keeps (f b a) parts) (l : List α) (b : Block) :
    b.keeps (l.foldl f b) parts := by
  induction l generalizing b with
  | nil => exact b.keeps_refl parts
  | cons a l ih => exact (h b a).trans (ih (f b a))

/-- A loop behind a chain. -/
theorem Block.keeps.fold {α : Type} {f : Block → α → Block} {b b' : Block} {parts : List Part} {l : List α} (h : b.keeps b' parts)
    (body : ∀ (b : Block) a, b.keeps (f b a) parts) : b.keeps (l.foldl f b') parts :=
  h.trans (keeps_foldl body l b')

theorem keeps_ite {c : Prop} [Decidable c] {b x y : Block} {parts : List Part} (hx : b.keeps x parts) (hy : b.keeps y parts) :
    b.keeps (if c then x else y) parts := by split <;> assumption

theorem Block.keeps.links {b b' : Block} {parts : List Part} (h : b.keeps b' parts) (hp : Part.links ∉ parts := by decide) : b'.links = b.links := h.only .links hp
theorem Block.keeps.notices {b b' : Block} {parts : List Part} (h : b.keeps b' parts) (hp : Part.notices ∉ parts := by decide) : b'.notices = b.notices := h.only .notices hp
theorem Block.keeps.cond {b b' : Block} {parts : List Part} (h : b.keeps b' parts) (hp : Part.cond ∉ parts := by decide) : b'.cond = b.cond := h.only .cond hp
theorem Block.keeps.config {b b' : Block} {parts : List Part} (h : b.keeps b' parts) (hp : Part.config ∉ parts := by decide) : b'.config = b.config := h.only .config hp
theorem Block.keeps.resetHeld {b b' : Block} {parts : List Part} (h : b.keeps b' parts) (hp : Part.resetHeld ∉ parts := by decide) : b'.resetHeld = b.resetHeld := h.only .resetHeld hp
theorem Block.keeps.chambers {b b' : Block} {parts : List Part} (h : b.keeps b' parts) (hp : Part.chambers ∉ parts := by decide) : b'.chambers = b.chambers := h.only .chambers hp
theorem Block.keeps.sections {b b' : Block} {parts : List Part} (h : b.keeps b' parts) (hp : Part.sections ∉ parts := by decide) : b'.sections = b.sections := h.only .sections hp
theorem Block.keeps.tick {b b' : Block} {parts : List Part} (h : b.keeps b' parts) (hp : Part.tick ∉ parts := by decide) : b'.tick = b.tick := h.only .tick hp
theorem Block.keeps.quals {b b' : Block} {parts : List Part} (h : b.keeps b' parts) (hp : Part.quals ∉ parts := by decide) : b'.quals = b.quals := h.only .quals hp
theorem Block.keeps.timers {b b' : Block} {parts : List Part} (h : b.keeps b' parts) (hp : Part.timers ∉ parts := by decide) : b'.timers = b.timers := h.only .timers hp
theorem Block.keeps.flasher {b b' : Block} {parts : List Part} (h : b.keeps b' parts) (hp : Part.flasher ∉ parts := by decide) : b'.flasher = b.flasher := h.only .flasher hp
theorem Block.keeps.drives {b b' : Block} {parts : List Part} (h : b.keeps b' parts) (hp : Part.drives ∉ parts := by decide) : b'.drives = b.drives := h.only .drives hp
theorem Block.keeps.lamps {b b' : Block} {parts : List Part} (h : b.keeps b' parts) (hp : Part.lamps ∉ parts := by decide) : b'.lamps = b.lamps := h.only .lamps hp
theorem Block.keeps.vessels {b b' : Block} {parts : List Part} (h : b.keeps b' parts) (hp : Part.vessels ∉ parts := by decide) : b'.vessels = b.vessels := h.only .vessels hp
theorem Block.keeps.queues {b b' : Block} {parts : List Part} (h : b.keeps b' parts) (hp : Part.queues ∉ parts := by decide) : b'.queues = b.queues := h.only .queues hp
theorem Block.keeps.lists {b b' : Block} {parts : List Part} (h : b.keeps b' parts) (hp : Part.lists ∉ parts := by decide) : b'.lists = b.lists := h.only .lists hp
theorem Block.keeps.signals {b b' : Block} {parts : List Part} (h : b.keeps b' parts) (hp : Part.signals ∉ parts := by decide) : b'.signals = b.signals := h.only .signals hp
theorem Block.keeps.tariff {b b' : Block} {parts : List Part} (h : b.keeps b' parts) (hp : Part.tariff ∉ parts := by decide) : b'.tariff = b.tariff := h.only .tariff hp
theorem Block.keeps.acct {b b' : Block} {parts : List Part} (h : b.keeps b' parts) (hp : Part.acct ∉ parts := by decide) : b'.acct = b.acct := h.only .acct hp

variable (b : Block)

theorem Block.setLink_keeps (lk x) : b.keeps (b.setLink lk x) [.links] := by
  refine ⟨fun p hp => ?_⟩; cases p <;> first | rfl | exact absurd (by decide) hp
theorem Block.setNotice_keeps (lk x) : b.keeps (b.setNotice lk x) [.notices] := by
  refine ⟨fun p hp => ?_⟩; cases p <;> first | rfl | exact absurd (by decide) hp
theorem Block.setCond_keeps (x) : b.keeps (b.setCond x) [.cond] := by
  refine ⟨fun p hp => ?_⟩; cases p <;> first | rfl | exact absurd (by decide) hp
theorem Block.setConfig_keeps (x) : b.keeps (b.setConfig x) [.config] := by
  refine ⟨fun p hp => ?_⟩; cases p <;> first | rfl | exact absurd (by decide) hp
theorem Block.setHeld_keeps (x) : b.keeps (b.setHeld x) [.resetHeld] := by
  refine ⟨fun p hp => ?_⟩; cases p <;> first | rfl | exact absurd (by decide) hp
theorem Block.setChamber_keeps (c x) : b.keeps (b.setChamber c x) [.chambers] := by
  refine ⟨fun p hp => ?_⟩; cases p <;> first | rfl | exact absurd (by decide) hp
theorem Block.setSec_keeps (k x) : b.keeps (b.setSec k x) [.sections] := by
  refine ⟨fun p hp => ?_⟩; cases p <;> first | rfl | exact absurd (by decide) hp
theorem Block.setTick_keeps (x) : b.keeps (b.setTick x) [.tick] := by
  refine ⟨fun p hp => ?_⟩; cases p <;> first | rfl | exact absurd (by decide) hp
theorem Block.setTimer_keeps (k x) : b.keeps (b.setTimer k x) [.timers] := by
  refine ⟨fun p hp => ?_⟩; cases p <;> first | rfl | exact absurd (by decide) hp
theorem Block.setFlasher_keeps (x) : b.keeps (b.setFlasher x) [.flasher] := by
  refine ⟨fun p hp => ?_⟩; cases p <;> first | rfl | exact absurd (by decide) hp
theorem Block.setDrive_keeps (k x) : b.keeps (b.setDrive k x) [.drives] := by
  refine ⟨fun p hp => ?_⟩; cases p <;> first | rfl | exact absurd (by decide) hp
theorem Block.setLamp_keeps (side x) : b.keeps (b.setLamp side x) [.lamps] := by
  refine ⟨fun p hp => ?_⟩; cases p <;> first | rfl | exact absurd (by decide) hp
theorem Block.setVessel_keeps (v x) : b.keeps (b.setVessel v x) [.vessels] := by
  refine ⟨fun p hp => ?_⟩; cases p <;> first | rfl | exact absurd (by decide) hp
theorem Block.setQueue_keeps (side x) : b.keeps (b.setQueue side x) [.queues] := by
  refine ⟨fun p hp => ?_⟩; cases p <;> first | rfl | exact absurd (by decide) hp
theorem Block.setList_keeps (c x) : b.keeps (b.setList c x) [.lists] := by
  refine ⟨fun p hp => ?_⟩; cases p <;> first | rfl | exact absurd (by decide) hp
theorem Block.setSignal_keeps (side x) : b.keeps (b.setSignal side x) [.signals] := by
  refine ⟨fun p hp => ?_⟩; cases p <;> first | rfl | exact absurd (by decide) hp
theorem Block.setTariff_keeps (x) : b.keeps (b.setTariff x) [.tariff] := by
  refine ⟨fun p hp => ?_⟩; cases p <;> first | rfl | exact absurd (by decide) hp
theorem Block.setAcct_keeps (x) : b.keeps (b.setAcct x) [.acct] := by
  refine ⟨fun p hp => ?_⟩; cases p <;> first | rfl | exact absurd (by decide) hp
theorem Block.setQual_keeps (i x) : b.keeps (b.setQual i x) [.quals] := by
  refine ⟨fun p hp => ?_⟩; cases p <;> first | rfl | exact absurd (by decide) hp
theorem Block.raise_keeps (n) : b.keeps (b.raise n) [.notices] := by
  refine ⟨fun p hp => ?_⟩; cases p <;> first | rfl | exact absurd (by decide) hp
theorem Block.setMeter_keeps (m x) : b.keeps (b.setMeter m x) [.acct] := by
  refine ⟨fun p hp => ?_⟩; cases p <;> first | rfl | exact absurd (by decide) hp
theorem Block.latch_keeps (k set reset) : b.keeps (b.latch k set reset) [.drives] := by
  refine ⟨fun p hp => ?_⟩; cases p <;> first | rfl | exact absurd (by decide) hp
theorem Block.reply_keeps (lk f) : b.keeps (b.reply lk f) [.links] := by
  refine ⟨fun p hp => ?_⟩; cases p <;> first | rfl | exact absurd (by decide) hp
theorem Block.queueReply_keeps (lk f) : b.keeps (b.queueReply lk f) [.links] := by
  refine ⟨fun p hp => ?_⟩; cases p <;> first | rfl | exact absurd (by decide) hp
theorem Block.markInHand_keeps (lk) : b.keeps (b.markInHand lk) [.links] := by
  refine ⟨fun p hp => ?_⟩; cases p <;> first | rfl | exact absurd (by decide) hp

/-! ### Signals -/

theorem Block.showAspect_keeps (side a) : b.keeps (b.showAspect side a) [.signals, .lamps] := by
  unfold Block.showAspect
  dsimp -failIfUnchanged only
  repeat' split
  all_goals
    repeat first
      | with_reducible exact Block.keeps_refl _ _
      | (with_reducible apply Block.keeps.step (h' := Block.setLamp_keeps ..); on_goal 2 => decide)
      | (with_reducible apply Block.keeps.step (h' := Block.setSignal_keeps ..); on_goal 2 => decide)

theorem Block.refreshSignal_keeps (side) : b.keeps (b.refreshSignal side) [.signals, .lamps] := by
  unfold Block.refreshSignal
  all_goals
    repeat first
      | with_reducible exact Block.keeps_refl _ _
      | (with_reducible apply Block.keeps.step (h' := Block.showAspect_keeps ..); on_goal 2 => decide)

theorem Block.refreshSignals_keeps : b.keeps (b.refreshSignals) [.signals, .lamps] := by
  unfold Block.refreshSignals
  all_goals
    repeat first
      | with_reducible exact Block.keeps_refl _ _
      | (with_reducible apply Block.keeps.step (h' := Block.refreshSignal_keeps ..); on_goal 2 => decide)

theorem Block.judgeLamp_keeps (side lamp proven) : b.keeps (b.judgeLamp side lamp proven) [.signals, .notices] := by
  unfold Block.judgeLamp
  dsimp -failIfUnchanged only
  repeat' split
  all_goals
    repeat first
      | with_reducible exact Block.keeps_refl _ _
      | (with_reducible apply Block.keeps.step (h' := Block.setSignal_keeps ..); on_goal 2 => decide)
      | (with_reducible apply Block.keeps.step (h' := Block.raise_keeps ..); on_goal 2 => decide)

theorem Block.provingArrival_keeps (side lamp proven) : b.keeps (b.provingArrival side lamp proven) [.signals, .notices] := by
  unfold Block.provingArrival
  dsimp -failIfUnchanged only
  repeat' split
  all_goals
    repeat first
      | with_reducible exact Block.keeps_refl _ _
      | (with_reducible apply Block.keeps.step (h' := Block.judgeLamp_keeps ..); on_goal 2 => decide)
      | (with_reducible apply Block.keeps.step (h' := Block.setSignal_keeps ..); on_goal 2 => decide)

theorem Block.settleExpiry_keeps (side lamp) : b.keeps (b.settleExpiry side lamp) [.signals, .notices, .lamps] := by
  unfold Block.settleExpiry
  dsimp -failIfUnchanged only
  repeat' split
  all_goals
    repeat first
      | with_reducible exact Block.keeps_refl _ _
      | (with_reducible apply Block.keeps.step (h' := Block.refreshSignals_keeps ..); on_goal 2 => decide)
      | (with_reducible apply Block.keeps.step (h' := Block.judgeLamp_keeps ..); on_goal 2 => decide)
      | (with_reducible apply Block.keeps.step (h' := Block.setSignal_keeps ..); on_goal 2 => decide)

theorem Block.phaseAt_keeps (side) : b.keeps (b.phaseAt side) [.signals, .lamps, .notices] := by
  unfold Block.phaseAt
  dsimp -failIfUnchanged only
  repeat' split
  all_goals
    repeat first
      | with_reducible exact Block.keeps_refl _ _
      | (with_reducible apply Block.keeps.step (h' := Block.setLamp_keeps ..); on_goal 2 => decide)
      | (with_reducible apply Block.keeps.step (h' := Block.setSignal_keeps ..); on_goal 2 => decide)
      | (with_reducible apply Block.keeps.step (h' := Block.judgeLamp_keeps ..); on_goal 2 => decide)

theorem Block.phaseChange_keeps : b.keeps (b.phaseChange) [.flasher, .signals, .lamps, .notices] := by
  unfold Block.phaseChange
  dsimp -failIfUnchanged only
  repeat' split
  all_goals
    repeat first
      | with_reducible exact Block.keeps_refl _ _
      | (with_reducible apply Block.keeps.step (h' := Block.refreshSignals_keeps ..); on_goal 2 => decide)
      | (with_reducible apply Block.keeps.step (h' := Block.phaseAt_keeps ..); on_goal 2 => decide)
      | (with_reducible apply Block.keeps.step (h' := Block.setFlasher_keeps ..); on_goal 2 => decide)


/-! ### Accounts -/

theorem Block.assignMeter_keeps (v) : b.keeps (b.assignMeter v) [.acct, .vessels] := by
  unfold Block.assignMeter
  dsimp -failIfUnchanged only
  repeat' split
  all_goals
    repeat first
      | with_reducible exact Block.keeps_refl _ _
      | (with_reducible apply Block.keeps.step (h' := Block.setVessel_keeps ..); on_goal 2 => decide)
      | (with_reducible apply Block.keeps.step (h' := Block.setMeter_keeps ..); on_goal 2 => decide)

theorem Block.stopMeter_keeps (v) : b.keeps (b.stopMeter v) [.acct] := by
  unfold Block.stopMeter
  dsimp -failIfUnchanged only
  repeat' split
  all_goals
    repeat first
      | with_reducible exact Block.keeps_refl _ _
      | (with_reducible apply Block.keeps.step (h' := Block.setMeter_keeps ..); on_goal 2 => decide)

theorem Block.ready_keeps (v) : b.keeps (b.ready v) [.acct] := by
  unfold Block.ready
  all_goals
    repeat first
      | with_reducible exact Block.keeps_refl _ _
      | (with_reducible apply Block.keeps.step (h' := Block.setAcct_keeps ..); on_goal 2 => decide)

theorem Block.meterStopped_keeps (v minutes) : b.keeps (b.meterStopped v minutes) [.vessels, .acct] := by
  unfold Block.meterStopped
  all_goals
    repeat first
      | with_reducible exact Block.keeps_refl _ _
      | (with_reducible apply Block.keeps.step (h' := Block.ready_keeps ..); on_goal 2 => decide)
      | (with_reducible apply Block.keeps.step (h' := Block.setVessel_keeps ..); on_goal 2 => decide)

theorem Block.minuteAt_keeps (m) : b.keeps (b.minuteAt m) [.acct, .vessels] := by
  unfold Block.minuteAt
  dsimp -failIfUnchanged only
  repeat' split
  all_goals
    repeat first
      | with_reducible exact Block.keeps_refl _ _
      | (with_reducible apply Block.keeps.step (h' := Block.meterStopped_keeps ..); on_goal 2 => decide)
      | (with_reducible apply Block.keeps.step (h' := Block.setMeter_keeps ..); on_goal 2 => decide)

theorem Block.journalNotices_keeps (newest waiting) : b.keeps (b.journalNotices newest waiting) [.notices] := by
  unfold Block.journalNotices
  dsimp -failIfUnchanged only
  repeat' split
  all_goals
    repeat first
      | with_reducible exact Block.keeps_refl _ _
      | (with_reducible apply Block.keeps.step (h' := Block.raise_keeps ..); on_goal 2 => decide)

theorem Block.releaseMeter_keeps (m) : b.keeps (b.releaseMeter m) [.acct] := by
  unfold Block.releaseMeter
  dsimp -failIfUnchanged only
  repeat' split
  all_goals
    repeat first
      | with_reducible exact Block.keeps_refl _ _
      | (with_reducible apply Block.keeps.step (h' := Block.setMeter_keeps ..); on_goal 2 => decide)

theorem Block.writeRecord_keeps (v rest) : b.keeps (b.writeRecord v rest) [.acct, .notices, .vessels] := by
  unfold Block.writeRecord
  all_goals
    repeat first
      | with_reducible exact Block.keeps_refl _ _
      | (with_reducible apply Block.keeps.step (h' := Block.releaseMeter_keeps ..); on_goal 2 => decide)
      | (with_reducible apply Block.keeps.step (h' := Block.setVessel_keeps ..); on_goal 2 => decide)
      | (with_reducible apply Block.keeps.step (h' := Block.journalNotices_keeps ..); on_goal 2 => decide)
      | (with_reducible apply Block.keeps.step (h' := Block.setAcct_keeps ..); on_goal 2 => decide)

theorem Block.drainFor_keeps (fuel : Nat) : b.keeps (Block.drainFor fuel b) [.acct, .notices, .vessels] := by
  induction fuel generalizing b with
  | zero => exact b.keeps_refl _
  | succ fuel ih =>
    unfold Block.drainFor
    repeat' split
    all_goals first
      | exact b.keeps_refl _
      | exact (Block.writeRecord_keeps ..).trans (ih _)

theorem Block.drain_keeps : b.keeps (b.drain) [.acct, .notices, .vessels] := by
  unfold Block.drain
  all_goals
    repeat first
      | with_reducible exact Block.keeps_refl _ _
      | (with_reducible apply Block.keeps.step (h' := Block.drainFor_keeps ..); on_goal 2 => decide)

theorem Block.minuteTick_keeps : b.keeps (b.minuteTick) [.acct, .notices, .vessels] := by
  unfold Block.minuteTick
  all_goals
    repeat first
      | with_reducible exact Block.keeps_refl _ _
      | (with_reducible apply Block.keeps.step (h' := Block.drain_keeps ..); on_goal 2 => decide)
      | (with_reducible apply Block.keeps.fold; on_goal 2 => (intro b m; exact (b.minuteAt_keeps m).mono (by decide)))

theorem Block.setLease_keeps (lk x) : b.keeps (b.setLease lk x) [.links] := by
  unfold Block.setLease
  all_goals
    repeat first
      | with_reducible exact Block.keeps_refl _ _
      | (with_reducible apply Block.keeps.step (h' := Block.setLink_keeps ..); on_goal 2 => decide)

theorem Block.leasesAdvance_keeps : b.keeps (b.leasesAdvance) [.links] := by
  unfold Block.leasesAdvance
  all_goals
    repeat first
      | with_reducible exact Block.keeps_refl _ _
      | (with_reducible apply Block.keeps.step (h' := Block.setLease_keeps ..); on_goal 2 => decide)

theorem Block.clockAdvance_keeps : b.keeps (b.clockAdvance) [.tick, .acct, .links, .notices, .vessels] := by
  unfold Block.clockAdvance
  dsimp -failIfUnchanged only
  repeat' split
  all_goals
    repeat first
      | with_reducible exact Block.keeps_refl _ _
      | (with_reducible apply Block.keeps.step (h' := Block.minuteTick_keeps ..); on_goal 2 => decide)
      | (with_reducible apply Block.keeps.step (h' := Block.setAcct_keeps ..); on_goal 2 => decide)
      | (with_reducible apply Block.keeps.step (h' := Block.setTick_keeps ..); on_goal 2 => decide)
      | (with_reducible apply Block.keeps.step (h' := Block.leasesAdvance_keeps ..); on_goal 2 => decide)

theorem Block.giveShare_keeps (v share) : b.keeps (b.giveShare v share) [.vessels, .acct] := by
  unfold Block.giveShare
  dsimp -failIfUnchanged only
  repeat' split
  all_goals
    repeat first
      | with_reducible exact Block.keeps_refl _ _
      | (with_reducible apply Block.keeps.step (h' := Block.setAcct_keeps ..); on_goal 2 => decide)
      | (with_reducible apply Block.keeps.step (h' := Block.setVessel_keeps ..); on_goal 2 => decide)

theorem Block.lockageEvent_keeps (occupants) : b.keeps (b.lockageEvent occupants) [.vessels, .acct] := by
  unfold Block.lockageEvent
  all_goals
    repeat first
      | with_reducible exact Block.keeps_refl _ _
      | (with_reducible apply Block.keeps.fold; on_goal 2 => (intro b v; exact (b.giveShare_keeps v _).mono (by decide)))


/-! ### Tariff -/

theorem Block.unqueueRating_keeps (v) : b.keeps (b.unqueueRating v) [.tariff] := by
  unfold Block.unqueueRating
  all_goals
    repeat first
      | with_reducible exact Block.keeps_refl _ _
      | (with_reducible apply Block.keeps.step (h' := Block.setTariff_keeps ..); on_goal 2 => decide)

theorem Block.deliver_keeps (v result) : b.keeps (b.deliver v result) [.tariff, .vessels, .queues, .notices] := by
  unfold Block.deliver
  dsimp -failIfUnchanged only
  repeat' split
  all_goals
    repeat first
      | with_reducible exact Block.keeps_refl _ _
      | (with_reducible apply Block.keeps.step (h' := Block.raise_keeps ..); on_goal 2 => decide)
      | (with_reducible apply Block.keeps.step (h' := Block.setQueue_keeps ..); on_goal 2 => decide)
      | (with_reducible apply Block.keeps.step (h' := Block.setVessel_keeps ..); on_goal 2 => decide)
      | (with_reducible apply Block.keeps.step (h' := Block.unqueueRating_keeps ..); on_goal 2 => decide)

theorem Block.regrant_keeps : b.keeps (b.regrant) [.tariff] := by
  unfold Block.regrant
  all_goals
    repeat first
      | with_reducible exact Block.keeps_refl _ _
      | (with_reducible apply Block.keeps.step (h' := Block.setTariff_keeps ..); on_goal 2 => decide)

theorem Block.endWalk_keeps : b.keeps (b.endWalk) [.tariff] := by
  unfold Block.endWalk
  all_goals
    repeat first
      | with_reducible exact Block.keeps_refl _ _
      | (with_reducible apply Block.keeps.step (h' := Block.setTariff_keeps ..); on_goal 2 => decide)

theorem Block.walkFails_keeps (w c) : b.keeps (b.walkFails w c) [.tariff, .vessels, .queues, .notices] := by
  unfold Block.walkFails
  all_goals
    repeat first
      | with_reducible exact Block.keeps_refl _ _
      | (with_reducible apply Block.keeps.step (h' := Block.deliver_keeps ..); on_goal 2 => decide)
      | (with_reducible apply Block.keeps.step (h' := Block.endWalk_keeps ..); on_goal 2 => decide)

theorem Block.walkSucceeds_keeps (w leaf) : b.keeps (b.walkSucceeds w leaf) [.tariff, .vessels, .queues, .notices] := by
  unfold Block.walkSucceeds
  dsimp -failIfUnchanged only
  repeat' split
  all_goals
    repeat first
      | with_reducible exact Block.keeps_refl _ _
      | (with_reducible apply Block.keeps.step (h' := Block.deliver_keeps ..); on_goal 2 => decide)
      | (with_reducible apply Block.keeps.step (h' := Block.endWalk_keeps ..); on_goal 2 => decide)
      | (with_reducible apply Block.keeps.step (h' := Block.setTariff_keeps ..); on_goal 2 => decide)

theorem Block.walkOn_keeps (w) : b.keeps (b.walkOn w) [.tariff] := by
  unfold Block.walkOn
  all_goals
    repeat first
      | with_reducible exact Block.keeps_refl _ _
      | (with_reducible apply Block.keeps.step (h' := Block.setTariff_keeps ..); on_goal 2 => decide)

theorem Block.judgeTable_keeps (w e) : b.keeps (b.judgeTable w e) [.tariff, .vessels, .queues, .notices] := by
  unfold Block.judgeTable
  dsimp -failIfUnchanged only
  repeat' split
  all_goals
    repeat first
      | with_reducible exact Block.keeps_refl _ _
      | (with_reducible apply Block.keeps.step (h' := Block.walkFails_keeps ..); on_goal 2 => decide)
      | (with_reducible apply Block.keeps.step (h' := Block.walkOn_keeps ..); on_goal 2 => decide)

theorem Block.acceptLeaf_keeps (w e) : b.keeps (b.acceptLeaf w e) [.tariff, .vessels, .queues, .notices] := by
  unfold Block.acceptLeaf
  dsimp -failIfUnchanged only
  repeat' split
  all_goals
    repeat first
      | with_reducible exact Block.keeps_refl _ _
      | (with_reducible apply Block.keeps.step (h' := Block.walkSucceeds_keeps ..); on_goal 2 => decide)
      | (with_reducible apply Block.keeps.step (h' := Block.walkOn_keeps ..); on_goal 2 => decide)

theorem Block.judgeLeaf_keeps (w e) : b.keeps (b.judgeLeaf w e) [.tariff, .vessels, .queues, .notices] := by
  unfold Block.judgeLeaf
  dsimp -failIfUnchanged only
  repeat' split
  all_goals
    repeat first
      | with_reducible exact Block.keeps_refl _ _
      | (with_reducible apply Block.keeps.step (h' := Block.acceptLeaf_keeps ..); on_goal 2 => decide)
      | (with_reducible apply Block.keeps.step (h' := Block.walkOn_keeps ..); on_goal 2 => decide)
      | (with_reducible apply Block.keeps.step (h' := Block.walkFails_keeps ..); on_goal 2 => decide)

theorem Block.judgeTarget_keeps (w e) : b.keeps (b.judgeTarget w e) [.tariff, .vessels, .queues, .notices] := by
  unfold Block.judgeTarget
  dsimp -failIfUnchanged only
  repeat' split
  all_goals
    repeat first
      | with_reducible exact Block.keeps_refl _ _
      | (with_reducible apply Block.keeps.step (h' := Block.acceptLeaf_keeps ..); on_goal 2 => decide)
      | (with_reducible apply Block.keeps.step (h' := Block.walkFails_keeps ..); on_goal 2 => decide)

theorem Block.afterWriteBack_keeps (w) : b.keeps (b.afterWriteBack w) [.tariff, .vessels, .queues, .notices] := by
  unfold Block.afterWriteBack
  dsimp -failIfUnchanged only
  repeat' split
  all_goals
    repeat first
      | with_reducible exact Block.keeps_refl _ _
      | (with_reducible apply Block.keeps.step (h' := Block.walkSucceeds_keeps ..); on_goal 2 => decide)
      | (with_reducible apply Block.keeps.step (h' := Block.walkOn_keeps ..); on_goal 2 => decide)

theorem Block.walkComplete_keeps : b.keeps (b.walkComplete) [.tariff, .vessels, .queues, .notices] := by
  unfold Block.walkComplete
  dsimp -failIfUnchanged only
  repeat' split
  all_goals
    repeat first
      | with_reducible exact Block.keeps_refl _ _
      | (with_reducible apply Block.keeps.step (h' := Block.regrant_keeps ..); on_goal 2 => decide)
      | (with_reducible apply Block.keeps.step (h' := Block.afterWriteBack_keeps ..); on_goal 2 => decide)
      | (with_reducible apply Block.keeps.step (h' := Block.setTariff_keeps ..); on_goal 2 => decide)
      | (with_reducible apply Block.keeps.step (h' := Block.judgeTable_keeps ..); on_goal 2 => decide)
      | (with_reducible apply Block.keeps.step (h' := Block.judgeLeaf_keeps ..); on_goal 2 => decide)
      | (with_reducible apply Block.keeps.step (h' := Block.judgeTarget_keeps ..); on_goal 2 => decide)
      | (with_reducible apply Block.keeps.step (h' := Block.endWalk_keeps ..); on_goal 2 => decide)

theorem Block.startWalk_keeps (v k) : b.keeps (b.startWalk v k) [.tariff, .vessels, .queues, .notices] := by
  unfold Block.startWalk
  dsimp -failIfUnchanged only
  repeat' split
  all_goals
    repeat first
      | with_reducible exact Block.keeps_refl _ _
      | (with_reducible apply Block.keeps.step (h' := Block.walkFails_keeps ..); on_goal 2 => decide)
      | (with_reducible apply Block.keeps.step (h' := Block.regrant_keeps ..); on_goal 2 => decide)
      | (with_reducible apply Block.keeps.step (h' := Block.setTariff_keeps ..); on_goal 2 => decide)

theorem Block.headTaken_keeps : b.keeps (b.headTaken) [.tariff, .vessels, .queues, .notices] := by
  unfold Block.headTaken
  dsimp -failIfUnchanged only
  repeat' split
  all_goals
    repeat first
      | with_reducible exact Block.keeps_refl _ _
      | (with_reducible apply Block.keeps.step (h' := Block.deliver_keeps ..); on_goal 2 => decide)
      | (with_reducible apply Block.keeps.step (h' := Block.setTariff_keeps ..); on_goal 2 => decide)
      | (with_reducible apply Block.keeps.step (h' := Block.startWalk_keeps ..); on_goal 2 => decide)

theorem Block.leaveRating_keeps (v) : b.keeps (b.leaveRating v) [.tariff] := by
  unfold Block.leaveRating
  dsimp -failIfUnchanged only
  repeat' split
  all_goals
    repeat first
      | with_reducible exact Block.keeps_refl _ _
      | (with_reducible apply Block.keeps.step (h' := Block.setTariff_keeps ..); on_goal 2 => decide)
      | (with_reducible apply Block.keeps.step (h' := Block.unqueueRating_keeps ..); on_goal 2 => decide)
      | (with_reducible apply Block.keeps.step (h' := Block.endWalk_keeps ..); on_goal 2 => decide)

theorem Block.replyInHand_keeps (lk o p) : b.keeps (b.replyInHand lk o p) [.links] := by
  unfold Block.replyInHand
  dsimp -failIfUnchanged only
  repeat' split
  all_goals
    repeat first
      | with_reducible exact Block.keeps_refl _ _
      | (with_reducible apply Block.keeps.step (h' := Block.queueReply_keeps ..); on_goal 2 => decide)

theorem Block.askStore_keeps (write index) : b.keeps (b.askStore write index) [.tariff] := by
  unfold Block.askStore
  all_goals
    repeat first
      | with_reducible exact Block.keeps_refl _ _
      | (with_reducible apply Block.keeps.step (h' := Block.regrant_keeps ..); on_goal 2 => decide)
      | (with_reducible apply Block.keeps.step (h' := Block.setTariff_keeps ..); on_goal 2 => decide)

theorem Block.writeComplete_keeps : b.keeps (b.writeComplete) [.tariff, .links] := by
  unfold Block.writeComplete
  dsimp -failIfUnchanged only
  repeat' split
  all_goals
    repeat first
      | with_reducible exact Block.keeps_refl _ _
      | (with_reducible apply Block.keeps.step (h' := Block.regrant_keeps ..); on_goal 2 => decide)
      | (with_reducible apply Block.keeps.step (h' := Block.replyInHand_keeps ..); on_goal 2 => decide)
      | (with_reducible apply Block.keeps.step (h' := Block.setTariff_keeps ..); on_goal 2 => decide)

theorem Block.readComplete_keeps : b.keeps (b.readComplete) [.tariff, .links] := by
  unfold Block.readComplete
  dsimp -failIfUnchanged only
  repeat' split
  all_goals
    repeat first
      | with_reducible exact Block.keeps_refl _ _
      | (with_reducible apply Block.keeps.step (h' := Block.regrant_keeps ..); on_goal 2 => decide)
      | (with_reducible apply Block.keeps.step (h' := Block.replyInHand_keeps ..); on_goal 2 => decide)
      | (with_reducible apply Block.keeps.step (h' := Block.setTariff_keeps ..); on_goal 2 => decide)


/-! ### Water -/

theorem Block.enterFault_keeps (k kind again) : b.keeps (b.enterFault k kind again) [.sections] := by
  unfold Block.enterFault
  dsimp -failIfUnchanged only
  repeat' split
  all_goals
    repeat first
      | with_reducible exact Block.keeps_refl _ _
      | (with_reducible apply Block.keeps.step (h' := Block.setSec_keeps ..); on_goal 2 => decide)

theorem Block.gateFault_keeps (k kind) : b.keeps (b.gateFault k kind) [.sections, .notices] := by
  unfold Block.gateFault
  all_goals
    repeat first
      | with_reducible exact Block.keeps_refl _ _
      | (with_reducible apply Block.keeps.step (h' := Block.raise_keeps ..); on_goal 2 => decide)
      | (with_reducible apply Block.keeps.step (h' := Block.enterFault_keeps ..); on_goal 2 => decide)

theorem Block.stopTransferChannel_keeps (k) : b.keeps (b.stopTransferChannel k) [.timers] := by
  unfold Block.stopTransferChannel
  all_goals
    repeat first
      | with_reducible exact Block.keeps_refl _ _
      | (with_reducible apply Block.keeps.step (h' := Block.setTimer_keeps ..); on_goal 2 => decide)

theorem Block.shutStart_keeps (k) : b.keeps (b.shutStart k) [.timers] := by
  unfold Block.shutStart
  all_goals
    repeat first
      | with_reducible exact Block.keeps_refl _ _
      | (with_reducible apply Block.keeps.step (h' := Block.setTimer_keeps ..); on_goal 2 => decide)

theorem Block.setSluice_keeps (k st) : b.keeps (b.setSluice k st) [.sections] := by
  unfold Block.setSluice
  all_goals
    repeat first
      | with_reducible exact Block.keeps_refl _ _
      | (with_reducible apply Block.keeps.step (h' := Block.setSec_keeps ..); on_goal 2 => decide)

theorem Block.shutSluice_keeps (k) : b.keeps (b.shutSluice k) [.sections, .drives, .timers] := by
  unfold Block.shutSluice
  all_goals
    repeat first
      | with_reducible exact Block.keeps_refl _ _
      | (with_reducible apply Block.keeps.step (h' := Block.shutStart_keeps ..); on_goal 2 => decide)
      | (with_reducible apply Block.keeps.step (h' := Block.setSluice_keeps ..); on_goal 2 => decide)
      | (with_reducible apply Block.keeps.step (h' := Block.latch_keeps ..); on_goal 2 => decide)

theorem Block.setChamberState_keeps (c st) : b.keeps (b.setChamberState c st) [.chambers] := by
  unfold Block.setChamberState
  all_goals
    repeat first
      | with_reducible exact Block.keeps_refl _ _
      | (with_reducible apply Block.keeps.step (h' := Block.setChamber_keeps ..); on_goal 2 => decide)

theorem Block.setTransfer_keeps (k r) : b.keeps (b.setTransfer k r) [.sections] := by
  unfold Block.setTransfer
  all_goals
    repeat first
      | with_reducible exact Block.keeps_refl _ _
      | (with_reducible apply Block.keeps.step (h' := Block.setSec_keeps ..); on_goal 2 => decide)

theorem Block.giveCause_keeps (k cause) : b.keeps (b.giveCause k cause) [.sections, .drives, .timers] := by
  unfold Block.giveCause
  dsimp -failIfUnchanged only
  repeat' split
  all_goals
    repeat first
      | with_reducible exact Block.keeps_refl _ _
      | (with_reducible apply Block.keeps.step (h' := Block.setTransfer_keeps ..); on_goal 2 => decide)
      | (with_reducible apply Block.keeps.step (h' := Block.shutSluice_keeps ..); on_goal 2 => decide)

theorem Block.levelFault_keeps (always c) : b.keeps (Block.levelFault always b c) [.chambers, .notices, .sections, .drives, .timers] := by
  unfold Block.levelFault
  repeat' split
  all_goals
    repeat first
      | with_reducible exact Block.keeps_refl _ _
      | (with_reducible apply Block.keeps.step (h' := Block.raise_keeps ..); on_goal 2 => decide)
      | (with_reducible apply Block.keeps.step (h' := Block.giveCause_keeps ..); on_goal 2 => decide)
      | (with_reducible apply Block.keeps.step (h' := Block.setChamberState_keeps ..); on_goal 2 => decide)

theorem Block.headFault_keeps (k) : b.keeps (b.headFault k) [.chambers, .notices, .sections, .drives, .timers] := by
  unfold Block.headFault
  all_goals
    repeat first
      | with_reducible exact Block.keeps_refl _ _
      | (with_reducible apply Block.keeps.fold; on_goal 2 => (intro b c; exact (b.levelFault_keeps _ c).mono (by decide)))

theorem Block.tellLevelFaults_keeps (cs) : b.keeps (b.tellLevelFaults cs) [.notices] := by
  unfold Block.tellLevelFaults
  all_goals
    repeat first
      | with_reducible exact Block.keeps_refl _ _
      | (with_reducible apply Block.keeps.fold; on_goal 2 => (intro b c; exact (b.raise_keeps _).mono (by decide)))

theorem Block.makeUnknown_keeps (cs) : b.keeps (b.makeUnknown cs) [.chambers] := by
  unfold Block.makeUnknown
  all_goals
    repeat first
      | with_reducible exact Block.keeps_refl _ _
      | (with_reducible apply Block.keeps.fold; on_goal 2 => (intro b c; exact (b.setChamberState_keeps c _).mono (by decide)))

theorem Block.unknownBeside_keeps (k) : b.keeps (b.unknownBeside k) [.chambers] := b.makeUnknown_keeps _

theorem Block.surveyStates_keeps (cs) : b.keeps (b.surveyStates cs) [.chambers] := by
  unfold Block.surveyStates
  all_goals
    repeat first
      | with_reducible exact Block.keeps_refl _ _
      | (with_reducible apply Block.keeps.fold; on_goal 2 => (intro a c; exact (a.setChamberState_keeps c _).mono (by decide)))

theorem Block.surveyed_keeps (cs) : b.keeps (b.surveyed cs) [.chambers, .notices] := by
  unfold Block.surveyed
  all_goals
    repeat first
      | with_reducible exact Block.keeps_refl _ _
      | (with_reducible apply Block.keeps.step (h' := Block.tellLevelFaults_keeps ..); on_goal 2 => decide)
      | (with_reducible apply Block.keeps.step (h' := Block.makeUnknown_keeps ..); on_goal 2 => decide)
      | (with_reducible apply Block.keeps.step (h' := Block.surveyStates_keeps ..); on_goal 2 => decide)

theorem Block.startTransfer_keeps (k) : b.keeps (b.startTransfer k) [.chambers, .sections, .drives, .timers] := by
  unfold Block.startTransfer
  all_goals
    repeat first
      | with_reducible exact Block.keeps_refl _ _
      | (with_reducible apply Block.keeps.step (h' := Block.setTimer_keeps ..); on_goal 2 => decide)
      | (with_reducible apply Block.keeps.step (h' := Block.latch_keeps ..); on_goal 2 => decide)
      | (with_reducible apply Block.keeps.step (h' := Block.setSec_keeps ..); on_goal 2 => decide)
      | (with_reducible apply Block.keeps.fold; on_goal 2 => (intro b c; exact (b.setChamberState_keeps c _).mono (by decide)))

theorem Block.compareEvent_keeps (k) : b.keeps (b.compareEvent k) [.sections, .drives] := by
  unfold Block.compareEvent
  dsimp -failIfUnchanged only
  repeat' split
  all_goals
    repeat first
      | with_reducible exact Block.keeps_refl _ _
      | (with_reducible apply Block.keeps.step (h' := Block.latch_keeps ..); on_goal 2 => decide)
      | (with_reducible apply Block.keeps.step (h' := Block.setSec_keeps ..); on_goal 2 => decide)

theorem Block.limitExpiry_keeps (k) : b.keeps (b.limitExpiry k) [.sections, .drives] := by
  unfold Block.limitExpiry
  dsimp -failIfUnchanged only
  repeat' split
  all_goals
    repeat first
      | with_reducible exact Block.keeps_refl _ _
      | (with_reducible apply Block.keeps.step (h' := Block.setSluice_keeps ..); on_goal 2 => decide)
      | (with_reducible apply Block.keeps.step (h' := Block.latch_keeps ..); on_goal 2 => decide)
      | (with_reducible apply Block.keeps.step (h' := Block.setTransfer_keeps ..); on_goal 2 => decide)

theorem Block.captureEvent_keeps (k) : b.keeps (b.captureEvent k) [.sections, .drives, .timers] := by
  unfold Block.captureEvent
  dsimp -failIfUnchanged only
  repeat' split
  all_goals
    repeat first
      | with_reducible exact Block.keeps_refl _ _
      | (with_reducible apply Block.keeps.step (h' := Block.setSluice_keeps ..); on_goal 2 => decide)
      | (with_reducible apply Block.keeps.step (h' := Block.latch_keeps ..); on_goal 2 => decide)
      | (with_reducible apply Block.keeps.step (h' := Block.setTransfer_keeps ..); on_goal 2 => decide)
      | (with_reducible apply Block.keeps.step (h' := Block.setTimer_keeps ..); on_goal 2 => decide)

theorem Block.countLockage_keeps (served c) : b.keeps (Block.countLockage served b c) [.chambers] := by
  unfold Block.countLockage
  repeat' split
  all_goals first
    | exact b.keeps_refl _
    | exact (Block.setChamber_keeps ..)

theorem Block.lockageDecision_keeps (k) : b.keeps (b.lockageDecision k) [.chambers, .vessels, .acct] := by
  unfold Block.lockageDecision
  dsimp -failIfUnchanged only
  repeat' split
  all_goals
    repeat first
      | with_reducible exact Block.keeps_refl _ _
      | (with_reducible apply Block.keeps.fold; on_goal 2 => (intro b c; exact (b.countLockage_keeps _ c).mono (by decide)))
      | (with_reducible apply Block.keeps.step (h' := Block.lockageEvent_keeps ..); on_goal 2 => decide)

theorem Block.levelled_keeps (k) : b.keeps (b.levelled k) [.chambers] := by
  unfold Block.levelled
  cases b.below k <;> cases b.above k <;> first
    | exact b.keeps_refl _
    | exact (Block.setChamberState_keeps ..)
    | exact (Block.setChamberState_keeps ..).trans (Block.setChamberState_keeps ..)

theorem Block.endTransfer_keeps (k r) : b.keeps (b.endTransfer k r) [.sections, .timers, .chambers, .notices, .vessels, .acct] := by
  unfold Block.endTransfer
  dsimp -failIfUnchanged only
  repeat' split
  all_goals
    repeat first
      | with_reducible exact Block.keeps_refl _ _
      | (with_reducible apply Block.keeps.step (h' := Block.lockageDecision_keeps ..); on_goal 2 => decide)
      | (with_reducible apply Block.keeps.step (h' := Block.raise_keeps ..); on_goal 2 => decide)
      | (with_reducible apply Block.keeps.step (h' := Block.levelled_keeps ..); on_goal 2 => decide)
      | (with_reducible apply Block.keeps.step (h' := Block.stopTransferChannel_keeps ..); on_goal 2 => decide)
      | (with_reducible apply Block.keeps.step (h' := Block.setSec_keeps ..); on_goal 2 => decide)
      | (with_reducible apply Block.keeps.step (h' := Block.tellLevelFaults_keeps ..); on_goal 2 => decide)
      | (with_reducible apply Block.keeps.step (h' := Block.unknownBeside_keeps ..); on_goal 2 => decide)

theorem Block.loseProof_keeps (k) : b.keeps (b.loseProof k) [.chambers, .notices, .sections, .drives, .timers] := by
  unfold Block.loseProof
  all_goals
    repeat first
      | with_reducible exact Block.keeps_refl _ _
      | (with_reducible apply Block.keeps.fold; on_goal 2 => (intro b c; exact (b.levelFault_keeps _ c).mono (by decide)))
      | (with_reducible apply Block.keeps.step (h' := Block.gateFault_keeps ..); on_goal 2 => decide)
      | (with_reducible apply Block.keeps.step (h' := Block.setSluice_keeps ..); on_goal 2 => decide)

theorem Block.paddleArrival_keeps (k shut) : b.keeps (b.paddleArrival k shut) [.sections, .timers, .chambers, .notices, .vessels, .acct, .drives] := by
  unfold Block.paddleArrival
  dsimp -failIfUnchanged only
  repeat' split
  all_goals
    repeat first
      | with_reducible exact Block.keeps_refl _ _
      | (with_reducible apply Block.keeps.step (h' := Block.endTransfer_keeps ..); on_goal 2 => decide)
      | (with_reducible apply Block.keeps.step (h' := Block.stopTransferChannel_keeps ..); on_goal 2 => decide)
      | (with_reducible apply Block.keeps.step (h' := Block.setSluice_keeps ..); on_goal 2 => decide)
      | (with_reducible apply Block.keeps.step (h' := Block.loseProof_keeps ..); on_goal 2 => decide)

theorem Block.shutExpiry_keeps (k) : b.keeps (b.shutExpiry k) [.sections, .timers, .chambers, .notices] := by
  unfold Block.shutExpiry
  dsimp -failIfUnchanged only
  repeat' split
  all_goals
    repeat first
      | with_reducible exact Block.keeps_refl _ _
      | (with_reducible apply Block.keeps.step (h' := Block.raise_keeps ..); on_goal 2 => decide)
      | (with_reducible apply Block.keeps.step (h' := Block.setSec_keeps ..); on_goal 2 => decide)
      | (with_reducible apply Block.keeps.step (h' := Block.unknownBeside_keeps ..); on_goal 2 => decide)
      | (with_reducible apply Block.keeps.step (h' := Block.enterFault_keeps ..); on_goal 2 => decide)
      | (with_reducible apply Block.keeps.step (h' := Block.stopTransferChannel_keeps ..); on_goal 2 => decide)
      | (with_reducible apply Block.keeps.step (h' := Block.setSluice_keeps ..); on_goal 2 => decide)
      | (with_reducible apply Block.keeps.step (h' := Block.gateFault_keeps ..); on_goal 2 => decide)

theorem Block.bandEffect_keeps (side before inBand) : b.keeps (b.bandEffect side before inBand) [.notices, .sections, .drives, .timers] := by
  unfold Block.bandEffect
  dsimp -failIfUnchanged only
  repeat' split
  all_goals
    repeat first
      | with_reducible exact Block.keeps_refl _ _
      | (with_reducible apply Block.keeps.step (h' := Block.giveCause_keeps ..); on_goal 2 => decide)
      | (with_reducible apply Block.keeps.step (h' := Block.raise_keeps ..); on_goal 2 => decide)


/-! ### Gates -/

theorem Block.endMotion_keeps (k gate position) : b.keeps (b.endMotion k gate position) [.sections, .drives, .timers] := by
  unfold Block.endMotion
  all_goals
    repeat first
      | with_reducible exact Block.keeps_refl _ _
      | (with_reducible apply Block.keeps.step (h' := Block.setSec_keeps ..); on_goal 2 => decide)
      | (with_reducible apply Block.keeps.step (h' := Block.setTimer_keeps ..); on_goal 2 => decide)
      | (with_reducible apply Block.keeps.step (h' := Block.latch_keeps ..); on_goal 2 => decide)

theorem Block.stopMotion_keeps (k) : b.keeps (b.stopMotion k) [.sections, .drives, .timers] := by
  unfold Block.stopMotion
  all_goals
    repeat first
      | with_reducible exact Block.keeps_refl _ _
      | (with_reducible apply Block.keeps.step (h' := Block.endMotion_keeps ..); on_goal 2 => decide)

theorem Block.stopIfMoving_keeps (k) : b.keeps (b.stopIfMoving k) [.sections, .drives, .timers] := by
  unfold Block.stopIfMoving
  dsimp -failIfUnchanged only
  repeat' split
  all_goals
    repeat first
      | with_reducible exact Block.keeps_refl _ _
      | (with_reducible apply Block.keeps.step (h' := Block.stopMotion_keeps ..); on_goal 2 => decide)

theorem Block.startMotion_keeps (k dir) : b.keeps (b.startMotion k dir) [.sections, .drives, .timers] := by
  unfold Block.startMotion
  all_goals
    repeat first
      | with_reducible exact Block.keeps_refl _ _
      | (with_reducible apply Block.keeps.step (h' := Block.setSec_keeps ..); on_goal 2 => decide)
      | (with_reducible apply Block.keeps.step (h' := Block.latch_keeps ..); on_goal 2 => decide)
      | (with_reducible apply Block.keeps.step (h' := Block.setTimer_keeps ..); on_goal 2 => decide)

theorem Block.limitConflict_keeps (k) : b.keeps (b.limitConflict k) [.sections, .drives, .timers, .notices] := by
  unfold Block.limitConflict
  all_goals
    repeat first
      | with_reducible exact Block.keeps_refl _ _
      | (with_reducible apply Block.keeps.step (h' := Block.gateFault_keeps ..); on_goal 2 => decide)
      | (with_reducible apply Block.keeps.step (h' := Block.stopMotion_keeps ..); on_goal 2 => decide)

theorem Block.gateAt_keeps (k dir) : b.keeps (b.gateAt k dir) [.sections, .drives, .timers] := by
  unfold Block.gateAt
  dsimp -failIfUnchanged only
  repeat' split
  all_goals
    repeat first
      | with_reducible exact Block.keeps_refl _ _
      | (with_reducible apply Block.keeps.step (h' := Block.endMotion_keeps ..); on_goal 2 => decide)

theorem Block.limitInMotion_keeps (k dir which before active) : b.keeps (b.limitInMotion k dir which before active) [.sections, .drives, .timers, .notices] := by
  unfold Block.limitInMotion
  dsimp -failIfUnchanged only
  repeat' split
  all_goals
    repeat first
      | with_reducible exact Block.keeps_refl _ _
      | (with_reducible apply Block.keeps.step (h' := Block.limitConflict_keeps ..); on_goal 2 => decide)
      | (with_reducible apply Block.keeps.step (h' := Block.raise_keeps ..); on_goal 2 => decide)
      | (with_reducible apply Block.keeps.step (h' := Block.gateAt_keeps ..); on_goal 2 => decide)

theorem Block.limitAtRest_keeps (k openActive closedActive) : b.keeps (b.limitAtRest k openActive closedActive) [.sections, .drives, .timers, .notices] := by
  unfold Block.limitAtRest
  dsimp -failIfUnchanged only
  repeat' split
  all_goals
    repeat first
      | with_reducible exact Block.keeps_refl _ _
      | (with_reducible apply Block.keeps.step (h' := Block.gateAt_keeps ..); on_goal 2 => decide)
      | (with_reducible apply Block.keeps.step (h' := Block.gateFault_keeps ..); on_goal 2 => decide)
      | (with_reducible apply Block.keeps.step (h' := Block.endMotion_keeps ..); on_goal 2 => decide)
      | (with_reducible apply Block.keeps.step (h' := Block.limitConflict_keeps ..); on_goal 2 => decide)

theorem Block.limitsFirstRead_keeps (k openActive closedActive) : b.keeps (b.limitsFirstRead k openActive closedActive) [.sections, .drives, .timers, .notices] := by
  unfold Block.limitsFirstRead
  dsimp -failIfUnchanged only
  repeat' split
  all_goals
    repeat first
      | with_reducible exact Block.keeps_refl _ _
      | (with_reducible apply Block.keeps.step (h' := Block.gateAt_keeps ..); on_goal 2 => decide)
      | (with_reducible apply Block.keeps.step (h' := Block.gateFault_keeps ..); on_goal 2 => decide)
      | (with_reducible apply Block.keeps.step (h' := Block.endMotion_keeps ..); on_goal 2 => decide)

theorem Block.limitEffect_keeps (k which before active) : b.keeps (b.limitEffect k which before active) [.sections, .drives, .timers, .notices, .signals, .lamps] := by
  unfold Block.limitEffect
  dsimp -failIfUnchanged only
  repeat' split
  all_goals
    repeat first
      | with_reducible exact Block.keeps_refl _ _
      | (with_reducible apply Block.keeps.step (h' := Block.refreshSignals_keeps ..); on_goal 2 => decide)
      | (with_reducible apply Block.keeps.step (h' := Block.limitConflict_keeps ..); on_goal 2 => decide)
      | (with_reducible apply Block.keeps.step (h' := Block.limitInMotion_keeps ..); on_goal 2 => decide)
      | (with_reducible apply Block.keeps.step (h' := Block.limitAtRest_keeps ..); on_goal 2 => decide)
      | (with_reducible apply Block.keeps.step (h' := Block.limitsFirstRead_keeps ..); on_goal 2 => decide)

theorem Block.beamEffect_keeps (k broken) : b.keeps (b.beamEffect k broken) [.sections, .drives, .timers, .notices, .signals, .lamps] := by
  unfold Block.beamEffect
  dsimp -failIfUnchanged only
  repeat' split
  all_goals
    repeat first
      | with_reducible exact Block.keeps_refl _ _
      | (with_reducible apply Block.keeps.step (h' := Block.refreshSignals_keeps ..); on_goal 2 => decide)
      | (with_reducible apply Block.keeps.step (h' := Block.raise_keeps ..); on_goal 2 => decide)
      | (with_reducible apply Block.keeps.step (h' := Block.stopMotion_keeps ..); on_goal 2 => decide)

theorem Block.headEffect_keeps (k level) : b.keeps (b.headEffect k level) [.sections, .drives, .timers, .notices, .signals, .lamps, .chambers] := by
  unfold Block.headEffect
  dsimp -failIfUnchanged only
  repeat' split
  all_goals
    repeat first
      | with_reducible exact Block.keeps_refl _ _
      | (with_reducible apply Block.keeps.step (h' := Block.captureEvent_keeps ..); on_goal 2 => decide)
      | (with_reducible apply Block.keeps.step (h' := Block.refreshSignals_keeps ..); on_goal 2 => decide)
      | (with_reducible apply Block.keeps.step (h' := Block.headFault_keeps ..); on_goal 2 => decide)
      | (with_reducible apply Block.keeps.step (h' := Block.stopIfMoving_keeps ..); on_goal 2 => decide)

theorem Block.zeroEvent_keeps (k) : b.keeps (b.zeroEvent k) [.sections, .drives, .timers, .notices, .signals, .lamps] := by
  unfold Block.zeroEvent
  dsimp -failIfUnchanged only
  repeat' split
  all_goals
    repeat first
      | with_reducible exact Block.keeps_refl _ _
      | (with_reducible apply Block.keeps.step (h' := Block.refreshSignals_keeps ..); on_goal 2 => decide)
      | (with_reducible apply Block.keeps.step (h' := Block.gateFault_keeps ..); on_goal 2 => decide)
      | (with_reducible apply Block.keeps.step (h' := Block.stopMotion_keeps ..); on_goal 2 => decide)

theorem Block.stallEvent_keeps (k) : b.keeps (b.stallEvent k) [.sections, .drives, .timers, .notices, .signals, .lamps] := by
  unfold Block.stallEvent
  dsimp -failIfUnchanged only
  repeat' split
  all_goals
    repeat first
      | with_reducible exact Block.keeps_refl _ _
      | (with_reducible apply Block.keeps.step (h' := Block.refreshSignals_keeps ..); on_goal 2 => decide)
      | (with_reducible apply Block.keeps.step (h' := Block.gateFault_keeps ..); on_goal 2 => decide)
      | (with_reducible apply Block.keeps.step (h' := Block.stopMotion_keeps ..); on_goal 2 => decide)

theorem Block.pulseCounted_keeps (k) : b.keeps (b.pulseCounted k) [.sections, .timers] := by
  unfold Block.pulseCounted
  dsimp -failIfUnchanged only
  repeat' split
  all_goals
    repeat first
      | with_reducible exact Block.keeps_refl _ _
      | (with_reducible apply Block.keeps.step (h' := Block.setTimer_keeps ..); on_goal 2 => decide)
      | (with_reducible apply Block.keeps.step (h' := Block.setSec_keeps ..); on_goal 2 => decide)

theorem Block.pulse_keeps (k) : b.keeps (b.pulse k) [.sections, .drives, .timers, .notices, .signals, .lamps] := by
  unfold Block.pulse
  dsimp -failIfUnchanged only
  repeat' split
  all_goals
    repeat first
      | with_reducible exact Block.keeps_refl _ _
      | (with_reducible apply Block.keeps.step (h' := Block.pulseCounted_keeps ..); on_goal 2 => decide)
      | (with_reducible apply Block.keeps.step (h' := Block.stallEvent_keeps ..); on_goal 2 => decide)
      | (with_reducible apply Block.keeps.step (h' := Block.zeroEvent_keeps ..); on_goal 2 => decide)


/-! ### Passage and claims -/

theorem Block.endCall_keeps (side) : b.keeps (b.endCall side) [.vessels] := by
  unfold Block.endCall
  dsimp -failIfUnchanged only
  repeat' split
  all_goals
    repeat first
      | with_reducible exact Block.keeps_refl _ _
      | (with_reducible apply Block.keeps.step (h' := Block.setVessel_keeps ..); on_goal 2 => decide)

theorem Block.endCalls_keeps : b.keeps (b.endCalls) [.vessels] := by
  unfold Block.endCalls
  all_goals
    repeat first
      | with_reducible exact Block.keeps_refl _ _
      | (with_reducible apply Block.keeps.step (h' := Block.endCall_keeps ..); on_goal 2 => decide)

theorem Block.queueRating_keeps (v) : b.keeps (b.queueRating v) [.tariff] := by
  unfold Block.queueRating
  all_goals
    repeat first
      | with_reducible exact Block.keeps_refl _ _
      | (with_reducible apply Block.keeps.step (h' := Block.setTariff_keeps ..); on_goal 2 => decide)

theorem Block.enter_keeps (v) : b.keeps (b.enter v) [.queues, .lists, .cond, .vessels, .acct] := by
  unfold Block.enter
  all_goals
    repeat first
      | with_reducible exact Block.keeps_refl _ _
      | (with_reducible apply Block.keeps.step (h' := Block.assignMeter_keeps ..); on_goal 2 => decide)
      | (with_reducible apply Block.keeps.step (h' := Block.setVessel_keeps ..); on_goal 2 => decide)
      | (with_reducible apply Block.keeps.step (h' := Block.setCond_keeps ..); on_goal 2 => decide)
      | (with_reducible apply Block.keeps.step (h' := Block.setList_keeps ..); on_goal 2 => decide)
      | (with_reducible apply Block.keeps.step (h' := Block.setQueue_keeps ..); on_goal 2 => decide)

theorem Block.moveOn_keeps (v src dest) : b.keeps (b.moveOn v src dest) [.lists, .vessels] := by
  unfold Block.moveOn
  all_goals
    repeat first
      | with_reducible exact Block.keeps_refl _ _
      | (with_reducible apply Block.keeps.step (h' := Block.setVessel_keeps ..); on_goal 2 => decide)
      | (with_reducible apply Block.keeps.step (h' := Block.setList_keeps ..); on_goal 2 => decide)

theorem Block.leave_keeps (v src) : b.keeps (b.leave v src) [.lists, .vessels, .acct, .notices] := by
  unfold Block.leave
  all_goals
    repeat first
      | with_reducible exact Block.keeps_refl _ _
      | (with_reducible apply Block.keeps.step (h' := Block.raise_keeps ..); on_goal 2 => decide)
      | (with_reducible apply Block.keeps.step (h' := Block.stopMeter_keeps ..); on_goal 2 => decide)
      | (with_reducible apply Block.keeps.step (h' := Block.setVessel_keeps ..); on_goal 2 => decide)
      | (with_reducible apply Block.keeps.step (h' := Block.setList_keeps ..); on_goal 2 => decide)

theorem Block.advanced_keeps (v) : b.keeps (b.advanced v) [.queues, .lists, .cond, .vessels, .acct, .notices] := by
  unfold Block.advanced
  dsimp -failIfUnchanged only
  repeat' split
  all_goals
    repeat first
      | with_reducible exact Block.keeps_refl _ _
      | (with_reducible apply Block.keeps.step (h' := Block.moveOn_keeps ..); on_goal 2 => decide)
      | (with_reducible apply Block.keeps.step (h' := Block.leave_keeps ..); on_goal 2 => decide)
      | (with_reducible apply Block.keeps.step (h' := Block.enter_keeps ..); on_goal 2 => decide)

theorem Block.withdrawn_keeps (v) : b.keeps (b.withdrawn v) [.tariff, .queues, .vessels, .acct, .notices, .signals, .lamps] := by
  unfold Block.withdrawn
  all_goals
    repeat first
      | with_reducible exact Block.keeps_refl _ _
      | (with_reducible apply Block.keeps.step (h' := Block.refreshSignals_keeps ..); on_goal 2 => decide)
      | (with_reducible apply Block.keeps.step (h' := Block.drain_keeps ..); on_goal 2 => decide)
      | (with_reducible apply Block.keeps.step (h' := Block.raise_keeps ..); on_goal 2 => decide)
      | (with_reducible apply Block.keeps.step (h' := Block.ready_keeps ..); on_goal 2 => decide)
      | (with_reducible apply Block.keeps.step (h' := Block.setVessel_keeps ..); on_goal 2 => decide)
      | (with_reducible apply Block.keeps.step (h' := Block.setQueue_keeps ..); on_goal 2 => decide)
      | (with_reducible apply Block.keeps.step (h' := Block.leaveRating_keeps ..); on_goal 2 => decide)

theorem Block.handOn_keeps (k) : b.keeps (b.handOn k) [.sections, .notices] := by
  unfold Block.handOn
  dsimp -failIfUnchanged only
  repeat' split
  all_goals
    repeat first
      | with_reducible exact Block.keeps_refl _ _
      | (with_reducible apply Block.keeps.step (h' := Block.raise_keeps ..); on_goal 2 => decide)
      | (with_reducible apply Block.keeps.step (h' := Block.setSec_keeps ..); on_goal 2 => decide)

theorem Block.lapseHandOn_keeps (k) : b.keeps (b.lapseHandOn k) [.sections, .notices] := by
  unfold Block.lapseHandOn
  dsimp -failIfUnchanged only
  repeat' split
  all_goals
    repeat first
      | with_reducible exact Block.keeps_refl _ _
      | (with_reducible apply Block.keeps.step (h' := Block.raise_keeps ..); on_goal 2 => decide)
      | (with_reducible apply Block.keeps.step (h' := Block.setSec_keeps ..); on_goal 2 => decide)

theorem Block.lapseManual_keeps (k) : b.keeps (b.lapseManual k) [.sections, .drives, .timers] := by
  unfold Block.lapseManual
  dsimp -failIfUnchanged only
  repeat' split
  all_goals
    repeat first
      | with_reducible exact Block.keeps_refl _ _
      | (with_reducible apply Block.keeps.step (h' := Block.shutSluice_keeps ..); on_goal 2 => decide)
      | (with_reducible apply Block.keeps.step (h' := Block.setSec_keeps ..); on_goal 2 => decide)
      | (with_reducible apply Block.keeps.step (h' := Block.latch_keeps ..); on_goal 2 => decide)

theorem Block.lapseCall_keeps (k) : b.keeps (b.lapseCall k) [.vessels] := by
  unfold Block.lapseCall
  dsimp -failIfUnchanged only
  repeat' split
  all_goals
    repeat first
      | with_reducible exact Block.keeps_refl _ _
      | (with_reducible apply Block.keeps.step (h' := Block.endCall_keeps ..); on_goal 2 => decide)

theorem Block.signalAuto_keeps (side) : b.keeps (b.signalAuto side) [.signals] := by
  unfold Block.signalAuto
  all_goals
    repeat first
      | with_reducible exact Block.keeps_refl _ _
      | (with_reducible apply Block.keeps.step (h' := Block.setSignal_keeps ..); on_goal 2 => decide)

theorem Block.lapseSignal_keeps (k) : b.keeps (b.lapseSignal k) [.signals] := by
  unfold Block.lapseSignal
  dsimp -failIfUnchanged only
  repeat' split
  all_goals
    repeat first
      | with_reducible exact Block.keeps_refl _ _
      | (with_reducible apply Block.keeps.step (h' := Block.signalAuto_keeps ..); on_goal 2 => decide)

theorem Block.lapseSection_keeps (lk k) : b.keeps (Block.lapseSection lk b k) [.sections, .drives, .timers, .notices, .vessels, .signals] := by
  unfold Block.lapseSection
  refine keeps_ite ?_ (b.keeps_refl _)
  all_goals
    repeat first
      | with_reducible exact Block.keeps_refl _ _
      | (with_reducible apply Block.keeps.step (h' := Block.lapseHandOn_keeps ..); on_goal 2 => decide)
      | (with_reducible apply Block.keeps.step (h' := Block.lapseSignal_keeps ..); on_goal 2 => decide)
      | (with_reducible apply Block.keeps.step (h' := Block.lapseCall_keeps ..); on_goal 2 => decide)
      | (with_reducible apply Block.keeps.step (h' := Block.lapseManual_keeps ..); on_goal 2 => decide)
      | (with_reducible apply Block.keeps.step (h' := Block.latch_keeps ..); on_goal 2 => decide)
      | (with_reducible apply Block.keeps.step (h' := Block.stopIfMoving_keeps ..); on_goal 2 => decide)

theorem Block.dropWait_keeps (lk k) : b.keeps (Block.dropWait lk b k) [.sections] := by
  unfold Block.dropWait
  exact keeps_ite (Block.setSec_keeps ..) (b.keeps_refl _)

theorem Block.lapseRelease_keeps (lk) : b.keeps (b.lapseRelease lk) [.sections, .drives, .timers, .notices, .vessels, .signals, .lamps] := by
  unfold Block.lapseRelease
  all_goals
    repeat first
      | with_reducible exact Block.keeps_refl _ _
      | (with_reducible apply Block.keeps.step (h' := Block.refreshSignals_keeps ..); on_goal 2 => decide)
      | (with_reducible apply Block.keeps.fold; on_goal 2 => (intro b k; exact (b.dropWait_keeps lk k).mono (by decide)))
      | (with_reducible apply Block.keeps.fold; on_goal 2 => (intro b k; exact (b.lapseSection_keeps lk k).mono (by decide)))

theorem Block.leaseExpiry_keeps (lk) : b.keeps (b.leaseExpiry lk) [.links, .sections, .drives, .timers, .notices, .vessels, .signals, .lamps] := by
  unfold Block.leaseExpiry
  dsimp -failIfUnchanged only
  repeat' split
  all_goals
    repeat first
      | with_reducible exact Block.keeps_refl _ _
      | (with_reducible apply Block.keeps.step (h' := Block.lapseRelease_keeps ..); on_goal 2 => decide)
      | (with_reducible apply Block.keeps.step (h' := Block.raise_keeps ..); on_goal 2 => decide)
      | (with_reducible apply Block.keeps.step (h' := Block.setLease_keeps ..); on_goal 2 => decide)


/-! ### Service -/

theorem Block.changeCondition_keeps (new cause link) : b.keeps (b.changeCondition new cause link) [.cond, .notices] := by
  unfold Block.changeCondition
  all_goals
    repeat first
      | with_reducible exact Block.keeps_refl _ _
      | (with_reducible apply Block.keeps.step (h' := Block.raise_keeps ..); on_goal 2 => decide)
      | (with_reducible apply Block.keeps.step (h' := Block.setCond_keeps ..); on_goal 2 => decide)

theorem Block.stopSection_keeps (k) : b.keeps (b.stopSection k) [.sections, .drives, .timers] := by
  unfold Block.stopSection
  dsimp -failIfUnchanged only
  repeat' split
  all_goals
    repeat first
      | with_reducible exact Block.keeps_refl _ _
      | (with_reducible apply Block.keeps.step (h' := Block.giveCause_keeps ..); on_goal 2 => decide)
      | (with_reducible apply Block.keeps.step (h' := Block.shutSluice_keeps ..); on_goal 2 => decide)
      | (with_reducible apply Block.keeps.step (h' := Block.stopIfMoving_keeps ..); on_goal 2 => decide)

theorem Block.latchesOff_keeps : b.keeps (b.latchesOff) [.drives] := by
  unfold Block.latchesOff
  all_goals
    repeat first
      | with_reducible exact Block.keeps_refl _ _
      | (with_reducible apply Block.keeps.fold; on_goal 2 => (intro b k; exact (b.latch_keeps k _ _).mono (by decide)))

theorem Block.enterStopped_keeps (cause link) : b.keeps (b.enterStopped cause link) [.sections, .drives, .timers, .vessels, .cond, .notices, .signals, .lamps] := by
  unfold Block.enterStopped
  all_goals
    repeat first
      | with_reducible exact Block.keeps_refl _ _
      | (with_reducible apply Block.keeps.step (h' := Block.refreshSignals_keeps ..); on_goal 2 => decide)
      | (with_reducible apply Block.keeps.step (h' := Block.changeCondition_keeps ..); on_goal 2 => decide)
      | (with_reducible apply Block.keeps.step (h' := Block.endCalls_keeps ..); on_goal 2 => decide)
      | (with_reducible apply Block.keeps.step (h' := Block.latchesOff_keeps ..); on_goal 2 => decide)
      | (with_reducible apply Block.keeps.fold; on_goal 2 => (intro b k; exact (b.stopSection_keeps k).mono (by decide)))

theorem Block.estopEffect_keeps (asserted) : b.keeps (b.estopEffect asserted) [.sections, .drives, .timers, .vessels, .cond, .notices, .signals, .lamps] := by
  unfold Block.estopEffect
  dsimp -failIfUnchanged only
  repeat' split
  all_goals
    repeat first
      | with_reducible exact Block.keeps_refl _ _
      | (with_reducible apply Block.keeps.step (h' := Block.enterStopped_keeps ..); on_goal 2 => decide)
      | (with_reducible apply Block.keeps.step (h' := Block.raise_keeps ..); on_goal 2 => decide)

theorem Block.stopChannels_keeps (k) : b.keeps (b.stopChannels k) [.timers] := by
  unfold Block.stopChannels
  all_goals
    repeat first
      | with_reducible exact Block.keeps_refl _ _
      | (with_reducible apply Block.keeps.step (h' := Block.setTimer_keeps ..); on_goal 2 => decide)

theorem Block.dropSection_keeps (k) : b.keeps (b.dropSection k) [.sections, .drives, .timers] := by
  unfold Block.dropSection
  all_goals
    repeat first
      | with_reducible exact Block.keeps_refl _ _
      | (with_reducible apply Block.keeps.step (h' := Block.stopChannels_keeps ..); on_goal 2 => decide)
      | (with_reducible apply Block.keeps.step (h' := Block.setSec_keeps ..); on_goal 2 => decide)
      | (with_reducible apply Block.keeps.step (h' := Block.latch_keeps ..); on_goal 2 => decide)
      | (with_reducible apply Block.keeps.step (h' := Block.stopIfMoving_keeps ..); on_goal 2 => decide)

theorem Block.resetSection_keeps (k) : b.keeps (b.resetSection k) [.sections, .drives, .timers] := by
  unfold Block.resetSection
  all_goals
    repeat first
      | with_reducible exact Block.keeps_refl _ _
      | (with_reducible apply Block.keeps.step (h' := Block.shutStart_keeps ..); on_goal 2 => decide)
      | (with_reducible apply Block.keeps.step (h' := Block.stopChannels_keeps ..); on_goal 2 => decide)
      | (with_reducible apply Block.keeps.step (h' := Block.setDrive_keeps ..); on_goal 2 => decide)
      | (with_reducible apply Block.keeps.step (h' := Block.setSec_keeps ..); on_goal 2 => decide)


/-! ### Arrivals and ticks -/

theorem Block.arrivalEffect_keeps (i before x) : b.keeps (b.arrivalEffect i before x) [.notices, .cond, .chambers, .sections, .timers, .drives, .lamps, .vessels, .signals, .acct] := by
  unfold Block.arrivalEffect
  dsimp -failIfUnchanged only
  repeat' split
  all_goals
    repeat first
      | with_reducible exact Block.keeps_refl _ _
      | (with_reducible apply Block.keeps.step (h' := Block.limitEffect_keeps ..); on_goal 2 => decide)
      | (with_reducible apply Block.keeps.step (h' := Block.beamEffect_keeps ..); on_goal 2 => decide)
      | (with_reducible apply Block.keeps.step (h' := Block.headEffect_keeps ..); on_goal 2 => decide)
      | (with_reducible apply Block.keeps.step (h' := Block.paddleArrival_keeps ..); on_goal 2 => decide)
      | (with_reducible apply Block.keeps.step (h' := Block.refreshSignals_keeps ..); on_goal 2 => decide)
      | (with_reducible apply Block.keeps.step (h' := Block.bandEffect_keeps ..); on_goal 2 => decide)
      | (with_reducible apply Block.keeps.step (h' := Block.provingArrival_keeps ..); on_goal 2 => decide)
      | (with_reducible apply Block.keeps.step (h' := Block.estopEffect_keeps ..); on_goal 2 => decide)

theorem Block.arrival_keeps (i) : b.keeps (b.arrival i) [.quals, .notices, .cond, .chambers, .sections, .timers, .drives, .lamps, .vessels, .signals, .acct] := by
  unfold Block.arrival
  dsimp -failIfUnchanged only
  repeat' split
  all_goals
    repeat first
      | with_reducible exact Block.keeps_refl _ _
      | (with_reducible apply Block.keeps.step (h' := Block.arrivalEffect_keeps ..); on_goal 2 => decide)
      | (with_reducible apply Block.keeps.step (h' := Block.setQual_keeps ..); on_goal 2 => decide)

theorem Block.channelEvents_keeps (k) : b.keeps (b.channelEvents k) [.sections, .drives, .timers, .notices, .signals, .lamps, .chambers] := by
  unfold Block.channelEvents
  all_goals
    repeat first
      | with_reducible exact Block.keeps_refl _ _
      | (with_reducible apply Block.keeps.step (h' := Block.shutExpiry_keeps ..); on_goal 2 => decide)
      | (with_reducible apply Block.keeps.step (h' := Block.limitExpiry_keeps ..); on_goal 2 => decide)
      | (with_reducible apply Block.keeps.step (h' := Block.compareEvent_keeps ..); on_goal 2 => decide)
      | (with_reducible apply Block.keeps.step (h' := Block.stallEvent_keeps ..); on_goal 2 => decide)
      | (with_reducible apply Block.keeps.step (h' := Block.zeroEvent_keeps ..); on_goal 2 => decide)

end Sys2Proof
end

