-- ==== Sys2Proof/Laws/Serve.lean ====
section
/-! SUPPORT. What the row of a request can answer (11 R188) and which transaction a transaction byte makes (11 R184), said once: a prover
cites these in place of unfolding `Block.request` and `LinkRec.transaction`. -/
namespace Sys2Proof

variable {b b' : Block} {lk : Link} {code tag : Byte} {payload : List Byte} {own : Block → Answer} {o : OutcomeCode} {p : Payload}

/-- The owner answers now. -/
theorem Block.request_answered (hr : b.linkReady lk = true) (hp : permitted code lk = true)
    (ho : own b = { reply := some (o, p), after := b' }) :
    b.request lk code tag payload own = b'.reply lk { code := code, tag := tag, outcome := o, payload := p } := by
  simp [Block.request, Block.serveAlone, hr, hp, ho]

/-- The owner answers later: the request stands alone in its queue, in hand. -/
theorem Block.request_later (hr : b.linkReady lk = true) (hp : permitted code lk = true) (ho : own b = { reply := none, after := b' }) :
    b.request lk code tag payload own = b'.setLink lk { b'.link lk with requests := [.good code tag payload], inHand := true } := by
  simp [Block.request, Block.serveAlone, hr, hp, ho]

/-- The link may not send the request. -/
theorem Block.request_notPermitted (hr : b.linkReady lk = true) (hp : permitted code lk = false) :
    b.request lk code tag payload own = b.reply lk { code := code, tag := tag, outcome := .notPermitted, payload := .none } := by
  simp [Block.request, Block.serveAlone, hr, hp, Answer.plain]

/-- The link could not take the request (log 3). -/
theorem Block.request_notReady (hr : b.linkReady lk = false) : b.request lk code tag payload own = b := by
  simp [Block.request, hr]

/-- Which bytes name which section (02 R22). -/
theorem Block.sectionArg_eq_some {k : Byte} {j : Fin 5} : b.sectionArg k = some j ↔ k.toNat = j.val ∧ k.toNat ≤ b.n.val := by
  unfold Block.sectionArg
  constructor
  · intro h
    split at h
    · cases h; exact ⟨rfl, by assumption⟩
    · cases h
  · rintro ⟨h, hn⟩
    rw [dif_pos hn]
    exact congrArg some (Fin.ext h)

/-- A section byte above N names nothing. -/
theorem Block.sectionArg_eq_none {k : Byte} : b.sectionArg k = none ↔ b.n.val < k.toNat := by
  unfold Block.sectionArg
  split <;> simp <;> omega

/-- The control houses may send every request below 90h but the toll office's. -/
theorem permitted_house (h : lk ≠ .t) (hc : ¬ (0x46 ≤ code.toNat ∧ code.toNat ≤ 0x48)) (hc' : code.toNat < 0x70) : permitted code lk = true := by
  cases lk <;> first | exact absurd rfl h | (simp [permitted]; omega)

/-- The reads and the notice requests are open to every link. -/
theorem permitted_all (hc : 0x90 ≤ code.toNat) : permitted code lk = true := by simp [permitted, hc]

/-! ## Transactions -/

theorem LinkRec.transaction_send (r : LinkRec) (rest : List Byte) : r.transaction (some Config.sendByte) rest = r.send rest := rfl

theorem LinkRec.transaction_collect (r : LinkRec) (rest : List Byte) :
    r.transaction (some Config.collectByte) rest = r.collect rest.length := by
  simp (decide := true) [LinkRec.transaction]

/-- Any other value: fill bytes go out and the bytes are ignored. -/
theorem LinkRec.transaction_other (r : LinkRec) {x : Byte} (rest : List Byte) (hs : x ≠ Config.sendByte) (hc : x ≠ Config.collectByte) :
    r.transaction (some x) rest = r.shifted (List.replicate rest.length 0) := by simp [LinkRec.transaction, hs, hc]

theorem LinkRec.transaction_cut (r : LinkRec) (rest : List Byte) : r.transaction none rest = { r with out := [] } := rfl

theorem Block.transact_held (h : b.resetHeld = true) (byte : Option Byte) (rest : List Byte) :
    b.transact lk byte rest = b.setLink lk { b.link lk with out := [] } := by simp [Block.transact, h]

theorem Block.transact_answered (h : b.resetHeld = false) (byte : Option Byte) (rest : List Byte) :
    b.transact lk byte rest = b.setLink lk ((b.link lk).transaction byte rest) := by simp [Block.transact, h]

/-! ## The rows, over their frames -/

open Machine

variable {i : Instr} {s : State}

/-- Every request row is the taking of its frame with its owner. -/
theorem exec_request (h : i.frame = some (lk, tag, code, payload)) :
    exec i s = .next { s with toBlock := s.request lk code tag payload i.own } := by
  cases i <;> simp only [Instr.frame, Option.some.injEq, Prod.mk.injEq, reduceCtorEq] at h <;> obtain ⟨rfl, rfl, rfl, rfl⟩ := h <;> rfl

/-- The row of a request whose owner answers now. -/
theorem exec_answered (h : i.frame = some (lk, tag, code, payload)) (hr : s.linkReady lk = true) (hp : permitted code lk = true)
    (ho : i.own s.toBlock = { reply := some (o, p), after := b' }) : exec i s = s.answers lk code tag o p b' := by
  rw [exec_request h, Block.request_answered hr hp ho]; rfl

/-- The row of a request whose owner answers later. -/
theorem exec_later (h : i.frame = some (lk, tag, code, payload)) (hr : s.linkReady lk = true) (hp : permitted code lk = true)
    (ho : i.own s.toBlock = { reply := none, after := b' }) :
    exec i s = s.becomes (b'.setLink lk { b'.link lk with requests := [.good code tag payload], inHand := true }) := by
  rw [exec_request h, Block.request_later hr hp ho]; rfl

end Sys2Proof
end

