-- ==== Sys2Proof/Laws/Store.lean ====
section
/-! SUPPORT. The tariff store (07 R118): a write keeps the canonical form, an entry reads back what was written to it, and no other
entry changes. -/
namespace Sys2Proof

theorem storeWfFrom_mono {lo lo' : Nat} (hl : lo' ≤ lo) : ∀ {store : List (Nat × W64)}, storeWfFrom lo store = true → storeWfFrom lo' store = true
  | [], _ => rfl
  | (j, w) :: rest, h => by
    simp only [storeWfFrom, Bool.and_eq_true, decide_eq_true_eq] at h ⊢
    exact ⟨⟨by omega, h.1.2⟩, h.2⟩

/-- An entry below the canonical part of the list reads 0. -/
theorem storeRead_below {lo i : Nat} (hi : i < lo) : ∀ {store : List (Nat × W64)}, storeWfFrom lo store = true → storeRead store i = 0
  | [], _ => rfl
  | (j, w) :: rest, h => by
    simp only [storeWfFrom, Bool.and_eq_true, decide_eq_true_eq] at h
    simp only [storeRead]
    rw [if_neg (by omega)]
    exact storeRead_below (by omega) h.2

theorem storeWrite_wfFrom {lo i : Nat} (x : W64) (hi : lo ≤ i) :
    ∀ {store : List (Nat × W64)}, storeWfFrom lo store = true → storeWfFrom lo (storeWrite store i x) = true := by
  intro store
  induction store generalizing lo with
  | nil => intro _; unfold storeWrite; split <;> simp_all [storeWfFrom]
  | cons a rest ih =>
    obtain ⟨j, w⟩ := a
    intro h
    have h0 := h
    simp only [storeWfFrom, Bool.and_eq_true, decide_eq_true_eq] at h
    unfold storeWrite
    split
    · split
      · exact h0
      · simp only [storeWfFrom, Bool.and_eq_true, decide_eq_true_eq]
        exact ⟨⟨hi, by assumption⟩, ⟨by omega, h.1.2⟩, h.2⟩
    · split
      · split
        · exact storeWfFrom_mono (by omega) h.2
        · simp only [storeWfFrom, Bool.and_eq_true, decide_eq_true_eq]
          subst_vars
          exact ⟨⟨hi, by assumption⟩, h.2⟩
      · simp only [storeWfFrom, Bool.and_eq_true, decide_eq_true_eq]
        exact ⟨h.1, ih (by omega) h.2⟩

/-- A write keeps the canonical form. -/
theorem storeWrite_wf {store : List (Nat × W64)} (i : Nat) (x : W64) (h : storeWf store = true) : storeWf (storeWrite store i x) = true :=
  storeWrite_wfFrom x (Nat.zero_le i) h

theorem storeRead_writeFrom {lo i : Nat} (x : W64) (hi : lo ≤ i) (k : Nat) :
    ∀ {store : List (Nat × W64)}, storeWfFrom lo store = true →
      storeRead (storeWrite store i x) k = if k = i then x else storeRead store k := by
  intro store
  induction store generalizing lo with
  | nil => intro _; unfold storeWrite; split <;> simp_all [storeRead]
  | cons a rest ih =>
    obtain ⟨j, w⟩ := a
    intro h
    simp only [storeWfFrom, Bool.and_eq_true, decide_eq_true_eq] at h
    unfold storeWrite
    split
    · split
      · rename_i hij hx
        by_cases hk : k = i
        · subst hk; subst hx
          simp only [storeRead, if_true]
          rw [if_neg (by omega)]
          exact storeRead_below (lo := j + 1) (by omega) h.2
        · rw [if_neg hk]
      · rfl
    · split
      · split
        · rename_i hij hx
          subst hij; subst hx
          by_cases hk : k = i
          · subst hk; rw [if_pos rfl]; exact storeRead_below (lo := k + 1) (by omega) h.2
          · rw [if_neg hk]; simp only [storeRead]; rw [if_neg hk]
        · rename_i hij hx
          subst hij
          simp only [storeRead]
          split <;> simp_all
      · simp only [storeRead]
        by_cases hk : k = j
        · subst hk; rw [if_pos rfl, if_neg (by omega), if_pos rfl]
        · rw [if_neg hk, ih (lo := j + 1) (by omega) h.2, if_neg hk]

/-- "An entry reads what was last written to it": the written entry reads the new value, every other one reads as before. -/
theorem storeRead_write {store : List (Nat × W64)} (i : Nat) (x : W64) (k : Nat) (h : storeWf store = true) :
    storeRead (storeWrite store i x) k = if k = i then x else storeRead store k :=
  storeRead_writeFrom x (Nat.zero_le i) k h

/-- The store of the machine after reset has the canonical form. -/
theorem storeWf_reset : storeWf Machine.State.reset.tariff.store = true := rfl

end Sys2Proof
end

