-- ==== Sys2Proof/Tests/Slice0.lean ====
section
/-! SUPPORT. Tests: ill-formed commands that the check refuses, one step of the commands on small states, and for every statement of
Certificates/Slice0/Obligations.lean that has hypotheses a state and operands that meet them. -/
namespace Sys2Proof.Tests
open Machine

set_option Elab.async false

/-! ## Small states -/

/-- The state after reset with its part changed. -/
def on (f : Block → Block) : State := { State.reset with toBlock := f State.reset.toBlock }

/-- Its part in SERVICE: every gate CLOSED and held by Link U, every sluice SHUT, every chamber EMPTY, every input read: limits CLOSED, beams
clear, heads LEVEL, paddles SHUT, floats LOW, bands in, RED proven, ESTOP released. -/
def calmPart : Block :=
  let b := State.reset.toBlock
  { b with
    cond := { b.cond with condition := .service },
    chambers := Vector.replicate 4 { state := .empty, lockages := 0, emptyLockages := 0 },
    sections := Vector.replicate 5 { sectionReset with holder := some .u, gate := .closed, position := some 0, sluice := .shut },
    quals := Vector.ofFn fun i : Fin 40 =>
      { state := some ((5 ≤ i.val && i.val < 10) || (15 ≤ i.val && i.val < 29) || (33 ≤ i.val && i.val < 37)), prev := none, raised := none },
    timers := Vector.replicate 5 { stroke := channelPowerOn, stall := channelPowerOn, transfer := channelPowerOn } }

def calm : State := { toBlock := calmPart, pending := [] }

/-- The calm state with its part changed. -/
def but (f : Block → Block) : State := { calm with toBlock := f calmPart }

/-- The calm state with section `k` changed. -/
def sect (k : Fin 5) (f : Section → Section) : State := but fun b => b.setSec k (f (b.sec k))

/-- The calm state with section `k` MANUAL. -/
def byHand (k : Fin 5) : State := sect k fun x => { x with mode := .manual }

def run (i : Instr) (s : State) : State :=
  match exec i s with
  | .next t => t
  | _ => s

/-- The outcome of the last reply of a link. -/
def said (lk : Link) (s : State) : Option OutcomeCode := (s.link lk).replies.getLast?.map ReplyFrame.outcome

def aRate : Rate :=
  { baseFee := 1200, perMetre := 15, dwellRate := 4, freeMinutes := 10, surcharge := 15, hold := false, exempt := false, stale := false,
    source := some 9 }

/-- An UP vessel rated and at the lower approach. -/
def aVessel : Vessel :=
  { vesselFree with
    state := .waiting, registration := 7, length := 735, operator := 0x1234, cls := 2, cargo := 3, rateStatus := .resolved, rate := some aRate,
    position := .approach .lower, bookedBy := some .u }

/-- The calm state with vessel 0 as given, alone in the lower queue. -/
def withVessel (x : Vessel) : State := but fun b => (b.setVessel 0 x).setQueue .lower [0]

/-- A vessel alone in chamber C1 or C4, with meter 0. -/
def inChamber (c : Fin 4) : State :=
  but fun b =>
    (((b.setVessel 0 { aVessel with state := .inFlight, position := .chamber c, admission := some 1, meter := some 0 }).setList c [0]).setMeter 0
      { state := .running, minutes := 3, owner := some 0 })

def aTransfer (p : Phase) : TransferRec := { start := 0, phase := p, cause := none, captured := none }

/-- The calm state with a transfer of section 2 in phase `p`, its channel as given. -/
def moving (p : Phase) (st : SluiceState) (ch : Channel) : State :=
  but fun b =>
    (b.setSec 2 { b.sec 2 with sluice := st, transfer := some (aTransfer p) }).setTimer 2 { b.timer 2 with transfer := ch }

def aWalk (level : WalkLevel) (writeBack : Bool) : Walk :=
  { slot := 0, key := { group := 1, cls := 2, cargo := 3 }, root := 0, level := level, writeBack := writeBack, index := 1, hold := false,
    surcharge := 0, leaf := none, source := none, stale := false, inAccess := true, next := 70 }

/-- The walk engine in a store access at entry 1, which holds `e`. -/
def walking (level : WalkLevel) (writeBack : Bool) (e : W64) : State :=
  but fun b =>
    (b.setVessel 0 { aVessel with state := .booked, rateStatus := .pending, rate := none }).setTariff
      { b.tariff with store := storeWrite [] 1 e, queue := [0], engine := .walking, walk := some (aWalk level writeBack) }

/-- A notice record in which kinds 3 and 5 are pending at levels 1 and 2. -/
def heard : NoticeRec :=
  let e (n : Notice) : NoticeEntry := { notice := n, overrun := false }
  { noticePowerOn with
    levels := (noticePowerOn.levels.set 3 1).set 5 2,
    entries := (noticePowerOn.entries.set 3 (some (e (.transferFault 0 .short)))).set 5 (some (e (.lineBlocked 1))) }

def aRecord (n : W32) : AccountRecord := { aVessel.account 1 with sequence := n }

/-! ## Ill-formed commands -/

/-- 10 R177: a frame spells 1 to 12 items. -/
theorem test_wellFormed_configure_no_item : (Instr.configure .u 0 []).wellFormed = false := by decide
theorem test_wellFormed_configure_thirteen :
    (Instr.configure .u 0 (List.replicate 13 { param := 0, index := 0, value := 1 })).wellFormed = false := by decide
/-- 11 R198: a frame spells 1 to 16 pairs. -/
theorem test_wellFormed_levels_none : (Instr.setNoticeLevel .u 0 []).wellFormed = false := by decide
theorem test_wellFormed_levels_seventeen : (Instr.setNoticeLevel .u 0 (List.replicate 17 (0, 0))).wellFormed = false := by decide
/-- 11 R184: 5Eh with a byte after it is a SEND, C3h a COLLECT, and no byte follows a transaction byte that was cut off. -/
theorem test_wellFormed_ignored_send : (Instr.ignoredTransaction .u (some 0x5E) [0]).wellFormed = false := by decide
theorem test_wellFormed_ignored_collect : (Instr.ignoredTransaction .u (some 0xC3) []).wellFormed = false := by decide
theorem test_wellFormed_ignored_cut : (Instr.ignoredTransaction .u none [0]).wellFormed = false := by decide
/-- 04 R65: each input makes one arrival at a tick. -/
theorem test_wellFormed_tick_twice : (Instr.motionTick (Vector.replicate 40 false) [.estop, .estop]).wellFormed = false := by decide

/-! ## One step of the commands -/

/-- 11 R187: "The bytes 01h, 00h, 00h give the check 6Bh. A single byte 01h gives 07h." -/
theorem test_crc8 : crc8 [1, 0, 0] = 0x6B ∧ crc8 [1] = 0x07 := by decide +kernel
/-- The empty queue idles, and a step is the front command (log 18). -/
theorem test_step : step calm = .next calm := rfl
theorem test_step_front :
    (match step { calm with pending := [.setRoot .t 1 64, .warmReset] } with
     | .next t => decide (t.tariff.root = 64 ∧ t.pending = [.warmReset])
     | _ => false) = true := by decide +kernel
theorem test_send_and_taken :
    let t := run (.send .l [0x60, 9, 0, crc8 [0x60, 9, 0]]) calm
    (t.link .l).requests = [.good 0x60 9 []] ∧ said .l (run (.requestTaken .l) t) = some .already ∧
    ((run (.requestTaken .l) t).link .l).requests = [] := by decide +kernel
theorem test_send_bad :
    let t := run (.send .l [0x60, 9, 0, 0]) calm
    (t.link .l).requests = [.bad 0x60 9] ∧ said .l (run (.requestTaken .l) t) = some .badFrame := by decide +kernel
theorem test_collect :
    let t := run (.stopGate .u 7 2) calm
    let c := run (.collect .u 8) t
    (t.link .u).replies.length = 1 ∧ (c.link .u).replies = [] ∧ (c.link .u).out = [0x1C, 0, 0x22, 7, 3, crc8 [0, 0x22, 7, 3], 0, 0, 0] := by
  decide +kernel
/-- The transaction byte decides (11 R184, 13 R200): 00h is no transaction, 5Eh is SEND, C3h is COLLECT. -/
theorem test_ignored :
    ((run (.ignoredTransaction .t (some 0x00) [7, 8]) calm).link .t).out = [0x0C, 0, 0] ∧
    ((run (.ignoredTransaction .t none []) calm).link .t).out = [] := by decide +kernel
theorem test_transaction_byte :
    let frame : List Byte := [0x60, 9, 0, crc8 [0x60, 9, 0]]
    ((run (.ignoredTransaction .l (some 0x5E) frame) calm).link .l).requests = [.good 0x60 9 []] ∧
    ((run (.ignoredTransaction .l (some 0xC3) frame) calm).link .l).out = [0x0C, 0xFF, 0, 0, 0] := by decide +kernel
theorem test_claims :
    said .l (run (.claim .l 1 2) calm) = some .queued ∧ ((run (.claim .l 1 2) calm).sec 2).waiter = some .l ∧
    said .t (run (.claim .t 1 2) calm) = some .notPermitted ∧ said .u (run (.claim .u 1 5) calm) = some .badArgument := by decide +kernel
theorem test_cancel_release_takeOver :
    let waits := sect 2 fun x => { x with waiter := some .l }
    let orphan := sect 2 fun x => { x with holder := none, orphan := true }
    ((run (.cancelClaim .l 1 2) waits).sec 2).waiter = none ∧ ((run (.release .u 1 2) waits).sec 2).holder = some .l ∧
    ((run (.takeOver .l 1 2) orphan).sec 2).holder = some .l := by decide +kernel
theorem test_openGate :
    let t := run (.openGate .u 1 0) calm
    said .u t = some .accepted ∧ (t.sec 0).gate = .opening ∧ t.drive 0 = { drivesReset with gateOpen := true } ∧ (t.timer 0).stroke.count = 1240 := by
  decide +kernel
theorem test_openGate_not_level : said .u (run (.openGate .u 1 2) calm) = some .notLevel := by decide +kernel
theorem test_closeGate :
    let t := run (.closeGate .u 1 2) (sect 2 fun x => { x with gate := .opened, position := some 1200 })
    said .u t = some .accepted ∧ (t.sec 2).gate = .closing ∧ (t.timer 2).stall.state = .starting := by decide +kernel
theorem test_stopGate :
    ((run (.stopGate .u 1 2) (sect 2 fun x => { x with gate := .opening })).sec 2).gate = .stopped := by decide +kernel
theorem test_clearFault :
    let s := sect 2 fun x => { x with sluice := .fault, fault := some { kind := .shutFail, stamp := 0, repeated := false } }
    ((run (.clearFault .u 1 2) s).sec 2).fault = none ∧ ((run (.clearFault .u 1 2) s).sec 2).sluice = .shut := by decide +kernel
/-- With no limit read and the paddles not proven, the reply names the condition on the limits. -/
theorem test_clearFault_refused :
    let s := sect 2 fun x => { x with sluice := .fault, fault := some { kind := .shutFail, stamp := 0, repeated := false } }
    let unread := { s with toBlock := (s.setQual (.openLimit 2) qualifierReset).setQual (.paddle 2) qualifierReset }
    let open_ := { s with toBlock := s.setQual (.paddle 2) qualifierReset }
    (((run (.clearFault .u 1 2) unread).link .u).replies.map ReplyFrame.payload = [.faultCondition .bothLimits]) ∧
    ((run (.clearFault .u 1 2) open_).link .u).replies.map ReplyFrame.payload = [.faultCondition .sluiceNotShut] := by decide +kernel
theorem test_setMode :
    ((run (.setManual .u 1 2) calm).sec 2).mode = .manual ∧ ((run (.setAuto .u 1 2) (byHand 2)).sec 2).mode = .auto := by decide +kernel
theorem test_drives :
    ((run (.driveGateOpen .u 1 0) (byHand 0)).sec 0).gate = .opening ∧
    ((run (.driveSluiceFull .u 1 2) (byHand 2)).drive 2) = { drivesReset with paddleCrack := true, paddleFull := true } ∧
    ((run (.driveSluiceCrack .u 1 2) (byHand 2)).chamber 1).state = .unknown ∧
    said .u (run (.driveGateHalt .u 1 2) calm) = some .notManual := by decide +kernel
theorem test_transfer :
    let s := but fun b => { b with quals := b.quals.set 19 { state := some false, prev := none, raised := none } }
    let t := run (.transfer .u 1 4) s
    said .u t = some .accepted ∧ (t.chamber 3).state = .transfer ∧ (t.sec 4).sluice = .cracked ∧ (t.timer 4).transfer.limit = 9000 ∧
    said .u (run (.transfer .u 1 0) s) = some .notLevel := by decide +kernel
theorem test_abort : ((run (.abortTransfer .u 1 2) (moving .full .opened channelPowerOn)).sec 2).sluice = .shutting := by decide +kernel
theorem test_survey :
    ((run (.survey .l 1 1) (but fun b => b.setChamber 0 { b.chamber 0 with state := .unknown })).chamber 0).state = .empty := by
  decide +kernel
/-- The INVALID depth of C3 is told before the open gate of C1, which reads HIGH: both notices are of one kind, so the later one, of C1, is
pending with overrun (01 R8, 11 R193, R195). -/
theorem test_survey_order :
    let reads (v : Bool) : Qualifier := { state := some v, prev := none, raised := none }
    let s := but fun b =>
      (((b.setNotice .u { noticePowerOn with levels := Vector.replicate 16 1 }).setSec 0 { b.sec 0 with gate := .opened }).setQual
          (.lowFloat 0) (reads false)).setQual (.highFloat 0) (reads true) |>.setQual (.highFloat 2) (reads true)
    let t := run (.surveyAll .u 1) s
    (t.chamber 0).state = .unknown ∧ (t.chamber 1).state = .empty ∧ (t.chamber 2).state = .unknown ∧
    (t.notice .u).entries[(Notice.levelFault 0).kind] = some { notice := .levelFault 0, overrun := true } := by decide +kernel
theorem test_book :
    let t := run (.book .l 1 7 735 0 0x1234 2 3) calm
    said .l t = some .done ∧ (t.vessel 0).state = .booked ∧ t.tariff.queue = [0] := by decide +kernel
theorem test_call_uncall :
    let t := run (.call .u 1 0) (withVessel aVessel)
    (t.vessel 0).state = .called ∧ ((run (.uncall .u 2 0) t).vessel 0).state = .waiting ∧
    said .u (run (.defer .u 1 0) (withVessel aVessel)) = some .already := by decide +kernel
theorem test_advance :
    let s := but fun b => ((b.setVessel 0 { aVessel with state := .called }).setQueue .lower [0]).setSec 0 { b.sec 0 with gate := .opened }
    let t := run (.advance .u 1 0) s
    said .u t = some .done ∧ t.list 0 = [0] ∧ (t.vessel 0).passageFee = 2656 ∧ (t.meter 0).state = .running ∧ t.cond.admissions = 1 := by
  decide +kernel
theorem test_withdraw :
    let t := run (.withdraw .u 1 0) (withVessel aVessel)
    (t.vessel 0).state = .free ∧ (t.acct.journal.map AccountRecord.registration) = [7] := by decide +kernel
theorem test_hold_rerate :
    ((run (.hold .t 1 0) (withVessel aVessel)).vessel 0).officeHold = true ∧ (run (.rerate .t 1 0) (withVessel aVessel)).tariff.queue = [0] ∧
    said .t (run (.unhold .t 1 0) (withVessel aVessel)) = some .already := by decide +kernel
theorem test_signals :
    said .u (run (.setSignalMode .u 1 0 1) calm) = some .done ∧ ((run (.setAspect .u 1 1 2) calm).signal .upper).preset = .prepare := by
  decide +kernel
theorem test_service :
    ((run (.endService .u 1) calm).cond).condition = .setup ∧ ((run (.stopAll .l 1) calm).cond).condition = .stopped ∧
    said .u (run (.resume .u 1) calm) = some .wrongCondition ∧
    ((run (.openService .u 1) (but fun b => b.setCond conditionPowerOn)).cond).condition = .service := by decide +kernel
theorem test_configure :
    let t := run (.configure .l 1 [{ param := 0, index := 0, value := 3 }]) State.reset
    t.n = 3 ∧ (t.chamber 0).state = .unknown := by decide +kernel
/-- N down to 3 and up again: section 4 is dropped, then takes its gate from its limits and its sluice from its paddle (10 R179, 02 R46). -/
theorem test_change_of_N :
    let item (n : W16) : ConfigItem := { param := 0, index := 0, value := n }
    let s := but fun b =>
      ((b.setCond { b.cond with condition := .setup }).setSec 4 { b.sec 4 with gate := .opened, position := some 9 }).setQual (.closedLimit 4)
        { state := some false, prev := none, raised := none } |>.setQual (.openLimit 4) { state := some true, prev := none, raised := none }
    let t := run (.configure .u 1 [item 3]) s
    let u := run (.configure .l 1 [item 4]) t
    (t.n, (t.sec 4).holder, (t.sec 4).position, (t.chamber 0).state) = (3, none, some 9, .unknown) ∧
    (u.n, (u.sec 4).gate, (u.sec 4).position, (u.sec 4).sluice) = (4, .opened, some 1200, .shut) ∧ u.sec 3 = s.sec 3 := by decide +kernel
theorem test_tariff :
    let t := run (.writeTariff .t 1 5 0x4000000000000040) calm
    let u := run .tariffWriteComplete t
    (t.link .t).inHand = true ∧ said .t u = some .done ∧ storeRead u.tariff.store 5 = 0x4000000000000040 ∧
    said .t (run .tariffReadComplete (run (.readTariff .t 1 5) calm)) = some .done := by decide +kernel
theorem test_tariff_settings :
    (run (.setRoot .t 1 64) calm).tariff.root = 64 ∧ (run (.setFreeze .t 1 1) calm).tariff.freeze = true ∧
    ((run (.setWindow .t 1 1 1 0x3000 0x0FFF) calm).tariff.windows)[1] = { enable := true, base := 0x3000, mask := 0x0FFF } ∧
    said .t (run (.flushKey .t 1 16 0 0) calm) = some .badArgument := by decide +kernel
theorem test_flushes :
    said .t (run (.flushAll .t 1) calm) = some .done ∧ said .t (run (.flushNonstanding .t 1) calm) = some .done := by decide +kernel
theorem test_accounts :
    (run (.setClock .t 1 59) calm).acct.clock = 59 ∧ (run (.setLockageCharge .t 1 600) calm).acct.charge = 600 ∧
    (run (.clearWriteOff .t 1) (but fun b => b.setAcct { b.acct with writeOff := 5 })).acct.writeOff = 0 ∧
    (run (.releaseJournal .t 1 2) (but fun b => b.setAcct { b.acct with journal := [aRecord 1, aRecord 2, aRecord 3] })).acct.journal.length = 1 := by
  decide +kernel
theorem test_reads :
    said .t (run (.readSection .t 1 5) calm) = some .badArgument ∧ said .t (run (.readJournal .t 1 (some 4)) calm) = some .badSequence ∧
    said .u (run (.readMeters .u 1) calm) = some .done ∧ said .u (run (.readConfig .u 1 3 0) calm) = some .badArgument := by decide +kernel
theorem test_notices :
    let s := but fun b => b.setNotice .u heard
    ((s.notice .u).line = true) ∧ ((run (.fetchNotice .u 1) s).notice .u).entries[(5 : Fin 16)] = none ∧
    ((run (.setLineThreshold .u 1 3) s).notice .u).line = false ∧ ((run (.setNoticeLevel .u 1 [(3, 0)]) s).notice .u).entries[(3 : Fin 16)] = none := by
  decide +kernel
theorem test_urgent :
    let t := run (.setUrgent .u 1 0 1 3) (but fun b => b.setNotice .u heard)
    (t.notice .u).choose = some 3 ∧ said .u (run (.readNoticeState .u 1) t) = some .done := by decide +kernel
theorem test_powerOn : run .powerOnReset calm = State.reset := by decide +kernel
theorem test_warm :
    let t := run .warmReset calm
    t.resetHeld = true ∧ t.cond.condition = .setup ∧ (t.chamber 0).state = .unknown ∧ (run .resetPinRelease t).resetHeld = false ∧
    (run .resetPinRelease t).lamp .lower = lampsRed := by decide +kernel
/-- Two ticks that agree make the first reading; the third tick takes it (04 R67, log 2). -/
theorem test_tick :
    let pins := Vector.replicate 40 true
    let t := run (.motionTick pins []) (run (.motionTick pins []) State.reset)
    t.tick.number = 2 ∧ (t.qual .estop).raised = some true ∧ ((run (.motionTick pins []) t).reading .estop) = some true := by decide +kernel
theorem test_second :
    let s := but fun b => { b with tick := { number := 10, secondDue := true }, acct := { b.acct with clock := 59 } }
    let t := run .flightClockAdvance s
    t.acct.clock = 60 ∧ t.tick.secondDue = false ∧ run .flightClockAdvance t = t := by decide +kernel
theorem test_lease :
    let s := but fun b => b.setLink .u { b.link .u with lease := { period := 5, action := .release, state := .running, counter := 0 } }
    let t := run (.leaseExpiry .u) s
    (t.link .u).lease.state = .lapsed ∧ (t.sec 2).holder = none ∧ (t.sec 2).orphan = true := by decide +kernel
theorem test_arrivals :
    let due (i : Input) (v : Bool) (f : Section → Section) : State :=
      but fun b => (b.setQual i { state := some (!v), prev := some v, raised := some v }).setSec 2 (f (b.sec 2))
    let opening : Section → Section := fun x => { x with gate := .opening }
    let closing : Section → Section := fun x => { x with gate := .closing }
    ((run (.limitArrival 2 .closedLimit) (due (.closedLimit 2) true closing)).sec 2).gate = .closed ∧
    ((run (.beamArrival 2) (due (.beam 2) true closing)).sec 2).gate = .stopped ∧
    ((run (.headSensorArrival 2) (due (.head 2) false opening)).chamber 1).state = .unknown ∧
    ((run (.paddleShutArrival 2) (due (.paddle 2) true fun x => { x with sluice := .shutting })).sec 2).sluice = .shut := by decide +kernel
/-- 02 R35: in an opening with the open limit unread, the closed limit arriving active is a conflict; R46: its first reading changes nothing. -/
theorem test_opposite_limit_target_unread :
    let opening (before : Option Bool) : State :=
      but fun b =>
        ((b.setQual (.openLimit 2) qualifierReset).setQual (.closedLimit 2) { state := before, prev := some true, raised := some true }).setSec 2
          { b.sec 2 with gate := .opening, position := none }
    let t := run (.limitArrival 2 .closedLimit) (opening (some false))
    ((t.sec 2).gate = .stopped ∧ (t.sec 2).position = none ∧ (t.sec 2).fault.map FaultRec.kind = some .limitConflict) ∧
    (run (.limitArrival 2 .closedLimit) (opening none)).sec 2 = (opening none).sec 2 := by decide +kernel
/-- 02 R46: the first reading that finds neither limit active leaves the gate STOPPED at an unknown position, without drift. -/
theorem test_first_reading_is_no_drift :
    let s := but fun b =>
      (b.setQual (.closedLimit 2) { state := none, prev := some false, raised := some false }).setSec 2 { b.sec 2 with gate := .opened }
    let t := run (.limitArrival 2 .closedLimit) s
    (t.sec 2).gate = .stopped ∧ (t.sec 2).position = none ∧ (t.sec 2).fault = none := by decide +kernel
theorem test_more_arrivals :
    let due (i : Input) (v : Bool) : State := but fun b => b.setQual i { state := some (!v), prev := some v, raised := some v }
    (run (.floatArrival 1 .high) (due (.highFloat 1) true)).reading (.highFloat 1) = some true ∧
    (run (.bandArrival .lower) (due (.band .lower) false)).reading (.band .lower) = some false ∧
    (run (.lampProvingArrival .upper .green) (due (.greenProving .upper) true)).reading (.greenProving .upper) = some true ∧
    ((run .estopArrival (due .estop true)).cond).condition = .stopped := by decide +kernel
theorem test_pulse_zero_stall :
    let running (st : ChannelState) : State :=
      sect 2 (fun x => { x with gate := .opening, travel := .opens }) |> fun s =>
        { s with toBlock := s.setTimer 2 { s.timer 2 with stroke := { channelPowerOn with state := st, count := 1 }, stall := { channelPowerOn with state := st } } }
    let t := run (.encoderPulse 2) (running .running)
    (t.sec 2).position = some 1 ∧ (t.timer 2).stroke.state = .ended ∧
    ((run (.zero 2) (running .ended)).sec 2).fault.map FaultRec.kind = some .overtravel ∧
    ((run (.stallExpiry 2) (running .ended)).sec 2).fault.map FaultRec.kind = some .stall := by decide +kernel
/-- 04 R72 at count 1, the tick first: the motion ends as STALL, and the pulse moves the position alone. The pulse first: no expiry. -/
theorem test_tick_then_pulse :
    let one : Channel := { channelPowerOn with state := .running, count := 1, reload := 20 }
    let s := sect 2 (fun x => { x with gate := .opening, travel := .opens }) |> fun s =>
      { s with toBlock := s.setTimer 2 { s.timer 2 with stroke := one, stall := one } }
    let tick := run (.motionTick (Vector.replicate 40 false) [])
    let late := run (.encoderPulse 2) (tick s)
    let early := tick (run (.encoderPulse 2) { s with toBlock := s.setTimer 2 { s.timer 2 with stroke := channelPowerOn } })
    ((late.sec 2).fault.map FaultRec.kind = some .stall ∧ (late.sec 2).gate = .stopped ∧ (late.sec 2).position = some 1 ∧
      (late.timer 2).stroke = { one with state := .idle }) ∧
    ((early.sec 2).gate = .opening ∧ (early.timer 2).stall = { one with count := 19 }) := by decide +kernel
theorem test_transfer_events :
    let up : Channel := { channelPowerOn with state := .running, count := 30, compare := 30, dir := .up }
    ((run (.compare 2) (moving .crack .cracked up)).sec 2).sluice = .opened ∧
    ((run (.expiryLimit 2) (moving .full .opened { up with dir := .down })).sec 2).sluice = .shutting ∧
    ((run (.expiryShut 2) (moving .shutWait .shutting { up with state := .ended })).sec 2).sluice = .fault := by decide +kernel
theorem test_lamps :
    let s := but fun b => b.setFlasher { b.flasher with channel := { b.flasher.channel with count := 0 } }
    let t := but fun b => b.setSignal .lower { b.signal .lower with aspect := .stop, redStage := .settling, redSettle := 0 }
    (run .flasherPhaseChange s).flasher.on = false ∧ ((run (.lampSettleExpiry .lower .red) t).signal .lower).redStage = .watching := by
  decide +kernel
theorem test_rating :
    let s := but fun b => (b.setVessel 0 { aVessel with state := .booked }).setTariff { b.tariff with queue := [0] }
    let t := run .ratingHeadTaken s
    t.tariff.engine = .walking ∧ ((run .walkAccessComplete t).vessel 0).rateStatus = .failed ∧ (run .walkAccessComplete t).queue .lower = [0] := by
  decide +kernel

/-! ## The hypotheses of the statements are met

One theorem for each statement of Obligations.lean that has hypotheses, by the statement's name; several clauses, several states. -/

/-- A control house at the calm state, and the toll office; the ends of the flight and the section above. -/
theorem calm_asks : calm.asks .u 2 2 ∧ calm.asks .l 0 0 ∧ calm.asks .u 4 4 := by unfold State.asks State.house; decide +kernel
theorem calm_house : calm.house .u ∧ calm.house .l := by unfold State.house; decide +kernel
theorem calm_office : calm.office .t := by unfold State.office; decide +kernel

theorem witness_EveryCommandCompletes : calm.pending = [] := rfl
theorem witness_RequestRowIsOwnersAnswer :
    (Instr.claim .u 1 2).frame = some (.u, 1, 0x10, [2]) ∧ calm.linkReady .u = true ∧ (run .warmReset calm).linkReady .u = false := by decide +kernel
theorem witness_FrameDecodesBack :
    let i := Instr.configure .u 1 (List.replicate 12 { param := 255, index := 255, value := 0xFFFF })
    i.wellFormed = true ∧ i.frame.isSome = true ∧ (Instr.flushAll .t 255).frame = some (.t, 255, 0x75, []) := by decide +kernel
/-- Frames that spell a request, and two that spell none: a drive byte beyond its list, and a length not accepted. -/
theorem witness_FrameDecodesBack_converse :
    decodeRequest .u 1 0x26 [2, 2] = some (.driveGateHalt .u 1 2) ∧ decodeRequest .u 1 0xA1 [15, 3] = some (.setNoticeLevel .u 1 [(15, 3)]) ∧
    decodeRequest .u 1 0x26 [2, 3] = none ∧ decodeRequest .u 1 0x64 [1, 2, 3] = none := by decide +kernel
/-- A request at the head of the queue: of a row, bad, unknown, not permitted, and of a known code that spells no row; and the four ways
that none is taken. -/
theorem witness_RequestTaken :
    let at_ (r : RequestEntry) : State := but fun b => b.setLink .u { b.link .u with requests := [r] }
    let seven : State := but fun b =>
      b.setLink .u
        { b.link .u with
          requests := [.bad 0 0], replies := List.replicate 7 { code := 0, tag := 0, outcome := .done, payload := .none } }
    (Instr.claim .u 1 2).frame = some (.u, 1, 0x10, [2]) ∧ (at_ (.good 0x10 1 [2])).canTake .u = true ∧ seven.canTake .u = true ∧
    permitted 0x10 .u = true ∧ codeKnown 0x14 = false ∧ codeKnown 0x70 = true ∧ permitted 0x70 .u = false ∧ decodeRequest .u 1 0x10 [] = none ∧
    ((calm.link .u).requests = []) ∧ (run .warmReset calm).resetHeld = true := by decide +kernel
theorem witness_PermissionTable :
    (Instr.flushAll .u 1).frame = some (.u, 1, 0x75, []) ∧ calm.linkReady .u = true ∧ permitted 0x75 .u = false := by decide +kernel
theorem witness_SectionAboveNIsBadArgument :
    (Instr.claim .u 1 5).frame = some (.u, 1, 0x10, [5]) ∧ (Instr.abortTransfer .u 1 255).frame = some (.u, 1, 0x31, [255]) ∧
    (Instr.readSection .u 1 5).frame = some (.u, 1, 0x90, [5]) ∧ permitted 0x90 .u = true ∧ calm.linkReady .u = true ∧ calm.n.val < 5 := by
  decide +kernel
theorem witness_CheckByteIsDivisionRemainder :
    ([] : List Byte).length = (0 : Byte).toNat ∧ (List.replicate 48 (1 : Byte)).length = (48 : Byte).toNat := by decide +kernel
theorem witness_SendQueuesAFrame :
    calm.resetHeld = false ∧ (([0x60, 9, 0] : List Byte) ++ [crc8 [0x60, 9, 0]] ≠ []) ∧ (List.replicate 48 (1 : Byte)).length ≤ 48 ∧
    goodFrame [0x60] = false ∧ goodFrame ([0x60, 9, 49] ++ List.replicate 50 0) = false := by decide +kernel
theorem witness_CollectAndIgnoredTransactions :
    let r : LinkRec :=
      { linkPowerOn with
        replies := List.replicate 8 { code := 0, tag := 0, outcome := .done, payload := .none }, requests := List.replicate 3 (.bad 0 0) }
    r.replies.length ≤ 8 ∧ r.requests.length ≤ 3 ∧ calm.resetHeld = false ∧ (run .warmReset calm).resetHeld = true ∧ (0x5F : Byte) ≠ 0x5E ∧
    (0x5F : Byte) ≠ 0xC3 := by decide +kernel
theorem witness_CollectAndIgnoredTransactions_payload : ∀ bs, Payload.faultCondition .bothLimits ≠ .bytes bs := by intro bs h; cases h
theorem witness_RaisingIsRecorded :
    let b := calmPart.setNotice .u heard
    ((calmPart.notice .u).levels[(0 : Fin 16)] = 0) ∧ ((b.notice .u).levels[(3 : Fin 16)] ≠ 0) ∧ ((b.notice .u).entries[(3 : Fin 16)]).isSome = true ∧
    ((({ heard with entries := noticePowerOn.entries } : NoticeRec).entries)[(3 : Fin 16)] = none) ∧
    (Notice.transferFault 0 .short).kind = (Notice.transferFault 4 .timeout).kind := by decide +kernel
theorem witness_NoticeRequests :
    let s := but fun b => b.setNotice .u heard
    let first : NoticeRec := { heard with urgent0 := { enable := true, kind := 3 } }
    let second : NoticeRec := { heard with urgent1 := { enable := true, kind := 3 } }
    s.linkReady .u = true ∧ (s.notice .u).choose = some 5 ∧ ((s.notice .u).entries[(5 : Fin 16)]).isSome = true ∧ (calm.notice .u).choose = none ∧
    first.choose = some 3 ∧ second.choose = some 3 ∧ (List.replicate 16 ((15 : Fin 16), (3 : Fin 4))).length ≤ 16 ∧
    16 < (List.replicate 17 ((15 : Byte), (3 : Byte))).length ∧ 15 < (16 : Byte).toNat ∧ 3 < (4 : Byte).toNat ∧ 1 < (2 : Byte).toNat := by
  decide +kernel
theorem witness_ClaimRequests : calm.asks .u 0 0 ∧ calm.asks .l 4 4 := by unfold State.asks State.house; decide +kernel
theorem witness_LeaseLapse :
    let s := but fun b => (((b.setVessel 0 { aVessel with state := .called }).setQueue .lower [0]).setSec 0
      { b.sec 0 with mode := .manual, gate := .opening, sluice := .cracked, waiter := some .l })
    (calmPart.sec 2).holder = some .u ∧ (calmPart.sec 2).holder ≠ some .l ∧ (calmPart.sec 2).claimsLegal = true ∧ calmPart.claimsLegal = true ∧ (4 : Fin 5) ≤ calmPart.n ∧
    ((s.sec 0).holder = some .u ∧ (s.sec 0).claimsLegal = true ∧ (s.sec 0).moving = true ∧ (s.sec 0).waiter = some .l ∧
      0 = s.endSection .lower ∧ 0 ≠ s.endSection .upper ∧ s.called .lower = some 0) := by
  decide +kernel
theorem witness_OpenGate : 1 ≤ calmPart.n ∧ calm.asks .u 4 4 := by unfold State.asks State.house; decide +kernel
theorem witness_CloseGate : calm.house .u ∧ 1 ≤ calm.n ∧ calm.n.val < (5 : Byte).toNat ∧ (4 : Fin 5) ≤ calm.n ∧ (4 : Byte).toNat = (4 : Fin 5).val := by
  unfold State.house; decide +kernel
theorem witness_StopGateAndControlMode : calm.asks .u 0 0 ∧ calm.asks .u 4 4 := by unfold State.asks State.house; decide +kernel
theorem witness_ClearFault : calm.house .u ∧ calm.n.val < (5 : Byte).toNat ∧ (4 : Fin 5) ≤ calm.n ∧ (4 : Byte).toNat = (4 : Fin 5).val := by
  unfold State.house; decide +kernel
theorem witness_DriveGate :
    let stopped := but fun b => (b.setSec 2 { b.sec 2 with mode := .manual }).setCond { b.cond with condition := .stopped }
    let blocked := sect 2 fun x => { x with mode := .manual, fault := some { kind := .limitConflict, stamp := 0, repeated := false } }
    (calm.asks .l 2 2 ∧ (calm.sec 2).holder ≠ some .l) ∧ (calm.asks .u 2 2 ∧ (calm.sec 2).mode = .auto) ∧
    (stopped.asks .u 2 2 ∧ (stopped.sec 2).mode = .manual ∧ stopped.cond.condition = .stopped) ∧
    ((byHand 2).asks .u 2 2 ∧ ((byHand 2).sec 2).holder = some .u ∧ ((byHand 2).sec 2).mode = .manual ∧
      (byHand 2).cond.condition ≠ .stopped ∧ (byHand 2).limitsRefuse 2 = false) ∧
    (blocked.asks .u 2 2 ∧ (blocked.sec 2).fault.map FaultRec.kind = some .limitConflict) := by
  unfold State.asks State.house; decide +kernel
/-- A MANUAL section with its sluice in each state, gates near it closed and not. -/
theorem witness_DriveSluice :
    (∀ st ∈ [SluiceState.shut, .cracked, .opened, .shutting, .fault],
      let s := sect 2 fun x => { x with mode := .manual, sluice := st }
      s.asks .u 2 2 ∧ (s.sec 2).holder = some .u ∧ (s.sec 2).mode = .manual ∧ s.cond.condition ≠ .stopped ∧ s.nearGateOpen 2 = false ∧
      ∀ c ∈ s.beside 2, (s.chamber c).state ≠ .transfer) ∧
    (sect 2 fun x => { x with mode := .manual, gate := .opened }).nearGateOpen 2 = true ∧ (4 : Fin 5) ≤ calmPart.n := by
  unfold State.asks State.house; decide +kernel
/-- A section above the flight and one at its end; a pulse that finds a ZERO, an EXPIRY, and neither. -/
theorem witness_PulseBeamHeadZeroStall :
    let s := but fun b => b.setConfig { b.config with n := 3 }
    let x := (sect 2 fun x => { x with gate := .opening }).sec 2
    let ended : Channel := { channelPowerOn with state := .ended }
    let after (t : SectionTimers) := (run (.encoderPulse 2) { sect 2 (fun _ => x) with toBlock := (sect 2 fun _ => x).setTimer 2 t }).sec 2
    let none := { stroke := channelPowerOn, stall := channelPowerOn, transfer := channelPowerOn }
    s.n < (4 : Fin 5) ∧ (3 : Fin 5) ≤ s.n ∧ (x.mode = .auto ∧ x.moving = true) ∧
    (after { none with stroke := ended }).fault.map FaultRec.kind = some .overtravel ∧
    (after { none with stall := ended }).fault.map FaultRec.kind = some .stall ∧ (after none).fault = Option.none := by decide +kernel
theorem witness_ArrivalRows :
    let s := but fun b => b.setQual .estop { state := some false, prev := some true, raised := some true }
    (s.qual .estop).raised = some true ∧ s.offered .estop = true ∧ (calm.qual .estop).raised = none ∧
    (but fun b => b.setConfig { b.config with n := 1 }).offered (.beam 2) = false ∧
    calmPart.reading (.openLimit 2) = some false ∧ calmPart.reading (.closedLimit 2) = some true ∧
    (calmPart.setQual (.openLimit 2) qualifierReset).reading (.openLimit 2) = none := by decide +kernel
theorem witness_LevelAndTransferRules : (0 : Fin 5) ≤ calmPart.n ∧ (4 : Fin 5) ≤ calmPart.n := by decide +kernel
theorem witness_Transfer : calm.asks .u 0 0 ∧ calm.asks .u 4 4 := by unfold State.asks State.house; decide +kernel
theorem witness_TransferCauses :
    calm.asks .u 2 2 ∧ (calmPart.sec 2).transfer = none ∧
    (∀ p ∈ [Phase.crack, .full, .shutWait], ((moving p .cracked channelPowerOn).sec 2).transfer = some (aTransfer p)) ∧
    (aTransfer .crack).cause = none ∧ ({ aTransfer .shutWait with cause := some .timeout } : TransferRec).cause ≠ none := by
  unfold State.asks State.house; decide +kernel
theorem witness_TransferPhases :
    let up : Channel := { channelPowerOn with state := .running, count := 30, compare := 30, dir := .up }
    let s := moving .crack .cracked up
    let d := moving .full .opened { up with dir := .down }
    ((s.sec 2).transfer = some (aTransfer .crack) ∧ (s.timer 2).transfer.state = .running ∧ (s.timer 2).transfer.dir = .up ∧
      (s.timer 2).transfer.count = (s.timer 2).transfer.compare) ∧
    ((d.sec 2).transfer = some (aTransfer .full) ∧ (d.timer 2).transfer.dir = .down) ∧ (calm.sec 2).transfer = none ∧
    ((moving .crack .cracked { up with state := .starting }).timer 2).transfer.state = .starting ∧
    ((moving .crack .cracked { up with count := 29 }).timer 2).transfer.count ≠ ((moving .crack .cracked up).timer 2).transfer.compare ∧
    ((moving .shutWait .shutting { up with dir := .down }).timer 2).transfer.dir ≠ .up ∧ (calm.timer 2).transfer.state = .idle := by
  decide +kernel
theorem witness_TransferEnds :
    ((moving .shutWait .shutting channelPowerOn).sec 2).sluice = .shutting ∧
    ((moving .shutWait .shutting channelPowerOn).sec 2).transfer = some (aTransfer .shutWait) ∧
    ((sect 2 fun x => { x with sluice := .shutting }).sec 2).transfer = none ∧ (4 : Fin 5) ≤ calmPart.n := by decide +kernel
/-- The paddle proof lost at a SHUT sluice with its latches reset and with one set; a lockage with both lists empty, with a vessel in one,
and a crossing; the ends of the flight. -/
theorem witness_TransferEnds_lost_and_lockage :
    let cracking := but fun b => b.setDrive 2 { drivesReset with paddleCrack := true }
    let crossing := { inChamber 1 with toBlock := (inChamber 1).setList 2 [1] }
    ((calmPart.sec 2).sluice = .shut ∧ (calmPart.drive 2).paddleCrack = false ∧ (calmPart.drive 2).paddleFull = false) ∧
    (cracking.drive 2).paddleCrack = true ∧ ((sect 2 fun x => { x with sluice := .opened }).sec 2).sluice = .opened ∧
    (0 : Fin 5) ≤ calmPart.n ∧ calmPart.beside 0 = [0] ∧ calmPart.beside 4 = [3] ∧ calmPart.beside 2 = [1, 2] ∧
    (calmPart.list 1 = [] ∧ calmPart.list 2 = []) ∧ ((inChamber 1).list 1 ≠ [] ∧ (inChamber 1).list 2 = []) ∧
    ((1 : Fin 4).val + 1 = (2 : Fin 5).val ∧ (2 : Fin 4).val = (2 : Fin 5).val ∧ (2 : Fin 4).val < crossing.n.val ∧ crossing.list 1 ≠ [] ∧
      crossing.list 2 ≠ []) := by decide +kernel
theorem witness_Survey :
    calm.house .u ∧ calm.n.val < (5 : Byte).toNat ∧ (3 : Fin 4).val < calm.n.val ∧ (4 : Byte).toNat = (3 : Fin 4).val + 1 ∧
    (0 : Fin 4) ∈ calm.chambersIn ∧ (3 : Fin 4) ∉ [(0 : Fin 4)] := by
  unfold State.house; decide +kernel
theorem witness_Book :
    calm.house .l ∧ directionArg 1 = some .down ∧ (1 : W32) ≠ 0 ∧ 50 ≤ (50 : W16).toNat ∧ (1500 : W16).toNat ≤ 1500 ∧ (15 : Byte).toNat ≤ 15 ∧
    (7 : Byte).toNat ≤ 7 ∧ (49 : W16).toNat < 50 ∧ 1500 < (1501 : W16).toNat ∧ 1 < (2 : Byte).toNat ∧ 15 < (16 : Byte).toNat ∧ 7 < (8 : Byte).toNat := by
  unfold State.house; decide +kernel
theorem witness_AcceptanceAndFreeSlot : calmPart.freeSlot = some 0 ∧ 1 ≤ calmPart.n := by decide +kernel
theorem witness_CallUncallDefer :
    calm.house .u ∧ sideArg 0 = some .lower ∧ sideArg 1 = some .upper ∧ (15 : Byte).toNat = (15 : Fin 16).val := by
  unfold State.house; decide +kernel
theorem witness_AdvanceAdmits :
    let s := but fun b => ((b.setVessel 0 { aVessel with state := .called }).setQueue .lower [0]).setSec 0 { b.sec 0 with gate := .opened }
    let x := s.vessel 0
    s.house .u ∧ x.state = .called ∧ x.position = .approach .lower ∧ s.cond.condition = .service ∧
    (s.sec (s.endSection .lower)).holder = some .u ∧ (s.sec (s.endSection .lower)).gate = .opened ∧ x.officeHold = false ∧ x.rateHold = false ∧
    x.rateStatus = .resolved ∧ x.rate = some aRate ∧ s.acceptance (s.endChamber .lower) x = none ∧ s.freeMeter = some 0 := by
  unfold State.house; decide +kernel
/-- A vessel that moves on, one that leaves, and the refusals in their order. -/
theorem witness_AdvanceMovesAndLeaves :
    let on (c : Fin 4) : State := { inChamber c with toBlock := ((inChamber c).setSec 1 { calm.sec 1 with gate := .opened }).setSec 4 { calm.sec 4 with gate := .opened } }
    let way (c : Fin 4) := (on c).crossing ((on c).vessel 0)
    let called (f : Vessel → Vessel) (g : GateState) : State :=
      but fun b => ((b.setVessel 0 (f { aVessel with state := .called })).setQueue .lower [0]).setSec 0 { b.sec 0 with gate := g }
    ((on 0).house .u ∧ ((on 0).vessel 0).state = .inFlight ∧ ((on 0).vessel 0).position = .chamber 0 ∧ (on 0).list 0 = [0] ∧
      (on 0).cond.condition = .service ∧ ((on 0).sec (way 0).gate).holder = some .u ∧ ((on 0).sec (way 0).gate).gate = .opened ∧
      (way 0).dest = some 1 ∧ (on 0).acceptance 1 ((on 0).vessel 0) = none) ∧
    ((way 3).gate = 4 ∧ (way 3).dest = none ∧ ((on 3).vessel 0).meter = some 0 ∧ ((on 3).sec 4).gate = .opened) ∧
    (calm.vessel 1).state = .free ∧ ((withVessel { aVessel with state := .cleared }).vessel 0).state = .cleared ∧
    ((withVessel aVessel).vessel 0).state = .waiting ∧ ((inChamber 0).sec 0).holder ≠ some .l ∧
    ((called (fun x => x) .closed).sec 0).gate ≠ .opened ∧ ((called (fun x => { x with officeHold := true }) .opened).vessel 0).officeHold = true ∧
    (called (fun x => { x with length := 1101 }) .opened).acceptance 0 { aVessel with length := 1101 } = some .noRoom ∧
    (((inChamber 0).list 0).head? = some 0 ∧ ((inChamber 0).crossing ((inChamber 0).vessel 0)).gate = 1 ∧
      ((inChamber 0).sec 1).holder = some .u ∧ ((inChamber 0).sec 1).gate ≠ .opened) ∧
    (let full := { on 0 with toBlock := (on 0).setList 1 [1, 2] }
     (full.sec 1).gate = .opened ∧ (full.list 0).head? = some 0 ∧ full.acceptance 1 (full.vessel 0) = some .noRoom) ∧
    (but fun b => b.setAcct { b.acct with meters := Vector.replicate 8 { state := .running, minutes := 0, owner := none } }).freeMeter = none ∧
    15 < (16 : Byte).toNat ∧ aVessel.position ≠ .chamber 0 := by
  unfold State.house; decide +kernel
/-- A slot in use, a FREE one and one out of range; the walk of the vessel in access and waiting for Link T's access, and another's. -/
theorem witness_WithdrawHoldUnholdRerate :
    let t : Tariff := { calm.tariff with engine := .walking, walk := some (aWalk .level1 false) }
    let waiting : Tariff :=
      { t with walk := some { aWalk .level1 false with inAccess := false }, access := some { write := none, index := 0, inAccess := true } }
    let left (t : Tariff) (v : Fin 16) := ((calmPart.setTariff t).leaveRating v).tariff.engine
    calm.house .u ∧ calm.office .t ∧ (0 : Byte).toNat = (0 : Fin 16).val ∧ ((withVessel aVessel).vessel 0).state ≠ .free ∧
    (1 : Byte).toNat = (1 : Fin 16).val ∧ ((withVessel aVessel).vessel 1).state = .free ∧ 15 < (16 : Byte).toNat ∧
    (aWalk .level1 false).slot = 0 ∧ left t 0 = .abandoning ∧ left waiting 0 = .idle ∧ left t 1 = .walking := by
  unfold State.house State.office; decide +kernel
theorem witness_SignalRequests :
    calm.house .u ∧ sideArg 1 = some .upper ∧ (calm.sec (calm.endSection .upper)).holder = some .u ∧ modeArg 1 = some .manual ∧
    aspectArg 3 = some .proceed ∧ (1 < (2 : Byte).toNat ∧ 3 < (4 : Byte).toNat) ∧ calm.house .l ∧
    (calm.sec (calm.endSection .lower)).holder ≠ some .l ∧ (1 : Byte).toNat ≤ 1 ∧ (3 : Byte).toNat ≤ 3 := by unfold State.house; decide +kernel
theorem witness_LampsAndFlasher :
    (∀ st ∈ [LampStage.dark, .settling, .watching, .flashing], ({ signalReset with redStage := st } : Signal).stage .red = st) ∧
    (calm.signal .lower).aspect = .closed ∧ (calm.signal .lower).redStage = .flashing ∧ calm.flasher.on = true ∧
    ((signalReset.change .stop).aspect ≠ .closed ∧ (signalReset.change .stop).redStage ≠ .flashing) := by decide +kernel
theorem witness_TariffSettings : calm.office .t ∧ 1 < (2 : Byte).toNat := by unfold State.office; decide +kernel
/-- A store that is busy and one that is free; requests waiting; a link access in progress with its request in hand. -/
theorem witness_StoreAccess :
    let t := calm.tariff
    let w := { aWalk .level1 false with inAccess := false }
    let a : LinkAccess := { write := some 1, index := 2047, inAccess := false }
    let both : Tariff := { t with engine := .walking, walk := some w, access := some a }
    let s := run (.writeTariff .t 1 2047 1) calm
    let r := run (.readTariff .t 1 2047) calm
    storeWf [] = true ∧ both.busy = false ∧ ({ both with walk := some (aWalk .level1 false) } : Tariff).busy = true ∧ calm.linkReady .t = true ∧
    s.tariff.access = some { a with inAccess := true } ∧ (s.link .t).requests.length = 1 ∧ (r.tariff.access.map fun x => x.write) = some none := by
  decide +kernel
theorem witness_RatingHeadTaken :
    let s := but fun b => (b.setVessel 0 aVessel).setTariff { b.tariff with queue := [0] }
    let w : Window := { enable := true, base := 0x1000, mask := 0x0FFF }
    s.tariff.engine = .idle ∧ s.tariff.queue = [0] ∧ ((s.vessel 0).operator ^^^ w.base) &&& ~~~w.mask = 0 ∧
    (s.tariff.windows[0]).enable = false ∧ CacheSet.find (s.tariff.cache[0]) { group := 1, cls := 2, cargo := 3 } = none ∧ calm.tariff.queue = [] ∧
    (let e : CacheEntry :=
      { key := { group := 1, cls := 2, cargo := 3 }, baseFee := 0, perMetre := 0, dwellRate := 0, freeMinutes := 0, surcharge := 0, hold := false,
        exempt := false, standing := false, source := 0 }
     CacheSet.find (CacheSet.place cacheSetEmpty e) e.key = some 0) := by decide +kernel
theorem witness_WalkReads :
    ∀ level ∈ [WalkLevel.level1, .level2, .leaf, .target],
      let s := walking level false 0x4000000000000040
      s.tariff.engine = .walking ∧ s.tariff.walk = some (aWalk level false) ∧ (aWalk level false).inAccess = true ∧
      entryKind (storeRead s.tariff.store 1) = .table := by decide +kernel
theorem witness_WalkWriteBacksAndEnds :
    let s := walking .level1 true 0x4000000000000040
    s.tariff.walk = some (aWalk .level1 true) ∧ (aWalk .level1 true).inAccess = true ∧ s.tariff.engine = .walking ∧
    ({ s.tariff with engine := .abandoning } : Tariff).engine ≠ .walking := by decide +kernel
theorem witness_AccountRequests :
    let s := but fun b => b.setAcct { b.acct with journal := [aRecord 1, aRecord 2, aRecord 3] }
    s.office .t ∧ s.acct.journal = [aRecord 1] ++ aRecord 2 :: [aRecord 3] ∧ (aRecord 2).sequence = 2 ∧ (∀ x ∈ [aRecord 1], x.sequence ≠ 2) ∧
    (∀ r ∈ s.acct.journal, r.sequence ≠ 4) := by unfold State.office; decide +kernel
theorem witness_ClockAndMeters :
    let b := (inChamber 0).setMeter 0 { state := .stopping, minutes := 3, owner := some 0 }
    (calmPart.meter 0).state = .free ∧ ((inChamber 0).meter 0).state = .running ∧ (b.meter 0).state = .stopping ∧ (b.meter 0).owner = some 0 ∧
    (b.vessel 0).rate = some aRate := by decide +kernel
theorem witness_FeesAndShares :
    aRate.baseFee = 1200 ∧ aRate.perMetre = 15 ∧ aRate.surcharge = 15 ∧ aRate.exempt = false ∧ ([0, 5, 3] : List (Fin 16)) ≠ [] ∧
    ([0, 5, 3] : List (Fin 16)).Nodup ∧ (7 : Fin 16) ∉ ([0, 5, 3] : List (Fin 16)) ∧ calmPart.acct.writeOff ≤ 4294967295 := by decide +kernel
theorem witness_ClosingIsWritten : calmPart.acct.journal.length ≤ 64 ∧ (List.replicate 64 (aRecord 1)).length ≤ 64 := by decide +kernel
theorem witness_ServiceRequests :
    let setup := but fun b => b.setCond conditionPowerOn
    let stopped := but fun b => b.setCond { b.cond with condition := .stopped }
    (setup.house .u ∧ setup.cond.condition = .setup ∧ setup.reading .estop = some false ∧
      (∀ k : Fin 5, k ≤ setup.n → (setup.sec k).mode = .auto ∧ (setup.sec k).fault = none) ∧
      (∀ c : Fin 4, c.val < setup.n.val → (setup.chamber c).state = .empty ∨ (setup.chamber c).state = .full)) ∧
    (calm.house .u ∧ calm.cond.condition = .service ∧ (∀ v : Fin 16, (calm.vessel v).state ≠ .called ∧ (calm.vessel v).state ≠ .inFlight) ∧
      (∀ k : Fin 5, k ≤ calm.n → (calm.sec k).gate = .closed ∧ (calm.sec k).transfer = none)) ∧
    (stopped.house .u ∧ stopped.cond.condition = .stopped) := by unfold State.house; decide +kernel
/-- Each refusal of OPEN SERVICE and of END SERVICE, with what it names. -/
theorem witness_ServiceRequests_refusals :
    let setup (f : Block → Block) := but fun b => f (b.setCond conditionPowerOn)
    let manual := setup fun b => b.setSec 4 { b.sec 4 with mode := .manual }
    let faulty := setup fun b => b.setSec 0 { b.sec 0 with fault := some { kind := .stall, stamp := 0, repeated := false } }
    let busy := setup fun b => b.setChamber 3 { b.chamber 3 with state := .transfer }
    let unknown := setup fun b => b.setChamber 0 { b.chamber 0 with state := .unknown }
    (manual.sec 4).mode = .manual ∧ (∀ j, j < (4 : Fin 5) → (manual.sec j).mode = .auto) ∧ (4 : Fin 5) ≤ manual.n ∧
    (faulty.sec 0).fault ≠ none ∧ (∀ k : Fin 5, (faulty.sec k).mode = .auto) ∧
    (busy.chamber 3).state = .transfer ∧ (∀ d, d < (3 : Fin 4) → (busy.chamber d).state ≠ .transfer) ∧ (unknown.chamber 0).state = .unknown ∧
    (withVessel { aVessel with state := .called }).called .lower = some 0 ∧
    (but fun b => (b.setVessel 0 { aVessel with state := .called }).setQueue .upper [0]).called .upper = some 0 ∧
    ((inChamber 0).vessel 0).state = .inFlight ∧ (inChamber 0).called .lower = none ∧ (inChamber 0).called .upper = none ∧
    ((sect 2 fun x => { x with gate := .closing }).sec 2).moving = true ∧ ((moving .full .opened channelPowerOn).sec 2).transfer ≠ none ∧
    ((sect 4 fun x => { x with gate := .opened }).sec 4).gate ≠ .closed := by decide +kernel
theorem witness_EntryToStopped :
    let drawn := sect 2 fun x => { x with mode := .manual, sluice := .cracked }
    let s := withVessel { aVessel with state := .called }
    (4 : Fin 5) ≤ calmPart.n ∧ ((moving .full .opened channelPowerOn).sec 2).transfer = some (aTransfer .full) ∧ (calmPart.sec 2).transfer = none ∧
    ((drawn.sec 2).mode = .manual ∧ (drawn.sec 2).sluice = .cracked) ∧ (but fun b => b.setConfig { b.config with n := 1 }).n < (2 : Fin 5) ∧
    s.called .lower = some 0 ∧ (s.vessel 1).state ≠ .called ∧ (calmPart.signal .lower).aspect ≠ .stop ∧
    ((calmPart.setSignal .lower { signalReset with aspect := .stop }).signal .lower).aspect = .stop := by
  decide +kernel
theorem witness_Configure :
    let good : ConfigItem := { param := 0, index := 0, value := 3 }
    let bad : ConfigItem := { param := 14, index := 0, value := 3 }
    State.reset.house .u ∧ State.reset.cond.condition = .setup ∧ State.reset.itemCheck good = none ∧ (State.reset.itemCheck bad).isSome = true ∧
    (List.replicate 12 good).length ≤ 12 ∧ 12 < (List.replicate 13 good).length ∧ calm.cond.condition ≠ .setup ∧
    Parameter.inRange .chamberCount 1 = true ∧ Parameter.inRange .journalThreshold 64 = true := by unfold State.house; decide +kernel
/-- Items at the ends of their ranges, those that the state refuses, and a section above, in and again above the flight. -/
theorem witness_Configure_items :
    let item (p i : Byte) (v : W16) : ConfigItem := { param := p, index := i, value := v }
    let three := but fun b => b.setConfig { b.config with n := 3 }
    let full := inChamber 1
    (calm.itemCheck (item 0 0 4), calm.itemCheck (item 0 0 5), calm.itemCheck (item 0 1 4), full.itemCheck (item 0 0 3)) =
      (none, some .badArgument, some .badArgument, some .inProgress) ∧
    (full.itemCheck (item 1 2 100), full.itemCheck (item 1 2 1100), full.itemCheck (item 2 2 3), calm.itemCheck (item 1 0 100)) =
      (some .inProgress, none, some .inProgress, some .badArgument) ∧
    (calm.itemCheck (item 3 4 16), calm.itemCheck (item 9 5 5), calm.itemCheck (item 11 2 1), calm.itemCheck (item 12 3 0),
      calm.itemCheck (item 13 0 64), calm.itemCheck (item 14 0 1)) =
      (none, some .badArgument, some .badArgument, some .badArgument, none, some .badArgument) ∧
    three.n < (4 : Fin 5) ∧ (4 : Fin 5) ≤ calm.n ∧ parameterArg 3 4 = some (.fullStroke 4) ∧ Parameter.journalThreshold ≠ .chamberCount := by
  decide +kernel
theorem witness_WarmResetAndRelease :
    (4 : Fin 5) ≤ calm.n ∧ (but fun b => b.setConfig { b.config with n := 1 }).n < (2 : Fin 5) := by decide +kernel
/-- No event of an earlier tick stands at the calm state with its signals past CLOSED. -/
theorem witness_MotionTick :
    let b := { calmPart with signals := { lower := { signalReset with redStage := .watching }, upper := { signalReset with redStage := .watching } } }
    (∀ i ∈ Input.all, (b.qual i).raised = none) ∧
    (∀ k : Fin 5, (b.timer k).stroke.state ≠ .ended ∧ (b.timer k).stall.state ≠ .ended ∧ (b.timer k).transfer.state = .idle) ∧
    b.flasher.channel.count ≠ 0 ∧ (∀ side ∈ Side.all, (b.signal side).redStage ≠ .settling ∧ (b.signal side).greenStage ≠ .settling) ∧
    b.tick.secondDue = false ∧ (∀ lk ∈ Link.all, (b.link lk).lease.state ≠ .running) := by decide +kernel
theorem witness_Reads :
    let s := but fun b => b.setAcct { b.acct with journal := [aRecord 1, aRecord 2] }
    s.linkReady .t = true ∧ (4 : Fin 5) ≤ s.n ∧ (3 : Fin 4).val < s.n.val ∧ s.acct.journal = [aRecord 1] ++ aRecord 2 :: [] ∧
    (∀ x ∈ s.acct.journal, x.sequence ≠ 3) ∧
    (s.n.val < (5 : Byte).toNat ∧ 15 < (16 : Byte).toNat ∧ 1 < (2 : Byte).toNat ∧ 3 < (4 : Byte).toNat ∧ 2 < (3 : Byte).toNat ∧ 4 < (5 : Byte).toNat) := by
  decide +kernel
/-- An AUTO signal whose aspect is due and one whose aspect is not; a MANUAL one in SERVICE. -/
theorem witness_AspectsOfASignal :
    let manual := calmPart.setSignal .upper { signalReset with mode := .manual, aspect := .proceed }
    (calmPart.signal .lower).mode = .auto ∧ (calmPart.signal .lower).aspect ≠ (calmPart.derive .lower).1 ∧
    ((calmPart.refreshSignal .lower).signal .lower).aspect = (calmPart.derive .lower).1 ∧ (manual.signal .upper).mode = .manual ∧
    manual.manualAllowed .upper .proceed = false ∧
    (let open_ := (manual.setSec 4 { calmPart.sec 4 with gate := .opened }).setSignal .upper { signalReset with redState := .proven }
     open_.manualAllowed .upper .proceed = true ∧ open_.manualAllowed .upper .closed = true) ∧
    ((signalReset.change .prepare).redSettle = 4 ∧ ((signalReset.change .stop).change .prepare).greenSettle = 4 ∧
      ((signalReset.change .prepare).change .proceed).redStage = .dark ∧ ((signalReset.change .stop).change .closed).firstCycle = true) := by
  decide +kernel
/-- Every state of a channel (04 R69), at the counts where the clauses of MotionTick meet. -/
theorem witness_MotionTick_channels :
    let ch : Channel := { channelPowerOn with state := .running, count := 1, limit := 2 }
    ch.count ≤ 1 ∧ ch.count + 1 = ch.limit ∧ 2 ≤ ({ ch with count := 2 } : Channel).count ∧ ({ ch with count := 2 } : Channel).count + 1 ≠ ch.limit ∧
    ({ ch with state := .starting } : Channel).limit ≠ 0 := by decide +kernel
/-- The invariants hold at the calm state, and it steps. -/
theorem witness_SectionsStaySafe : step calm = .next calm ∧ calm.claimsLegal = true ∧ calm.latchesLegal = true := ⟨rfl, by decide +kernel⟩
theorem witness_StoreStaysLegal : step calm = .next calm ∧ calm.tariff.legal = true := ⟨rfl, by decide +kernel⟩
theorem witness_JournalStaysLegal : step calm = .next calm ∧ calm.acct.legal = true := ⟨rfl, by decide +kernel⟩
theorem witness_LinksAndConfigurationStayLegal : step calm = .next calm ∧ calm.linksLegal = true ∧ calm.configLegal = true :=
  ⟨rfl, by decide +kernel⟩

end Sys2Proof.Tests
end

section
/-! SUPPORT. Rules for the proofs about water: a record written twice, updates of two fields exchanged, the chambers beside a section,
loops over chambers, and the request rows of the control houses. -/
namespace Sys2Proof
open Machine

/-! ### A record written twice, and the latches of one event -/

section Overwrites
variable (b : Block)

@[simp] theorem Block.setSec_setSec (k x y) : (b.setSec k x).setSec k y = b.setSec k y := by simp [Block.setSec]
@[simp] theorem Block.setDrive_setDrive (k x y) : (b.setDrive k x).setDrive k y = b.setDrive k y := by simp [Block.setDrive]
@[simp] theorem Block.setTimer_setTimer (k x y) : (b.setTimer k x).setTimer k y = b.setTimer k y := by simp [Block.setTimer]
@[simp] theorem Block.setChamber_setChamber (c x y) : (b.setChamber c x).setChamber c y = b.setChamber c y := by
  simp [Block.setChamber]

theorem Block.setDrive_setSec (j k d x) : (b.setDrive j d).setSec k x = (b.setSec k x).setDrive j d := rfl

/-- Both paddle latches reset (04 R79); the gate latches stand. -/
theorem Block.latch_resetPaddles (k) :
    b.latch k latchNone latchPaddles = b.setDrive k { b.drive k with paddleCrack := false, paddleFull := false } := by
  simp [Block.latch, DriveLatches.apply, latchNone, latchPaddles]

/-- The CRACK latch set (04 R79). -/
theorem Block.latch_setCrack (k) : b.latch k latchCrack latchNone = b.setDrive k { b.drive k with paddleCrack := true } := by
  simp [Block.latch, DriveLatches.apply, latchNone, latchCrack]

/-- The FULL latch set (04 R79). -/
theorem Block.latch_setFull (k) : b.latch k latchFull latchNone = b.setDrive k { b.drive k with paddleFull := true } := by
  simp [Block.latch, DriveLatches.apply, latchNone, latchFull]

end Overwrites

/-! ### Blocks that differ in few parts -/

/-- Blocks that are the same in every part are the same. -/
theorem Block.eq_of_same {b b' : Block} (h : ∀ p : Part, p.same b b') : b' = b := by
  rw [Block.mk.injEq]
  exact ⟨h .links, h .notices, h .cond, h .config, h .resetHeld, h .chambers, h .sections, h .tick, h .quals, h .timers, h .flasher,
    h .drives, h .lamps, h .vessels, h .queues, h .lists, h .signals, h .tariff, h .acct⟩

/-- A block that differs in its chambers only is known by its chambers. -/
theorem Block.keeps.eq_with_chambers {b b' : Block} (h : b.keeps b' [.chambers]) : b' = { b with chambers := b'.chambers } :=
  Block.eq_of_same fun p => by have same := h.only p; cases p <;> first | rfl | exact same (by decide)

/-- A block that differs in its chambers and notices only. -/
theorem Block.keeps.eq_with_chambers_notices {b b' : Block} (h : b.keeps b' [.chambers, .notices]) :
    b' = { b with chambers := b'.chambers, notices := b'.notices } :=
  Block.eq_of_same fun p => by have same := h.only p; cases p <;> first | rfl | exact same (by decide)

/-- A block that differs in its chambers, vessels and accounts only. -/
theorem Block.keeps.eq_with_chambers_vessels_acct {b b' : Block} (h : b.keeps b' [.chambers, .vessels, .acct]) :
    b' = { b with chambers := b'.chambers, vessels := b'.vessels, acct := b'.acct } :=
  Block.eq_of_same fun p => by have same := h.only p; cases p <;> first | rfl | exact same (by decide)

theorem Block.chambers_eq_ofFn (b : Block) : b.chambers = Vector.ofFn b.chamber := by
  ext c hc; simp [Block.chamber]

/-- A block that differs in its chambers only, each of which is known. -/
theorem Block.keeps.eq_ofFn_chambers {b b' : Block} {g : Fin 4 → Chamber} (h : b.keeps b' [.chambers]) (hg : ∀ c, b'.chamber c = g c) :
    b' = { b with chambers := Vector.ofFn g } := by
  rw [h.eq_with_chambers, b'.chambers_eq_ofFn, funext hg]

/-! ### The chambers beside a section -/

theorem Block.below_eq_some {b : Block} {k : Fin 5} {c : Fin 4} : b.below k = some c ↔ c.val + 1 = k.val := by
  simp only [Block.below, Option.dite_none_right_eq_some, Option.some.injEq, Fin.ext_iff]
  constructor
  · rintro ⟨hk, hc⟩; omega
  · intro hc; exact ⟨by omega, by omega⟩

theorem Block.above_eq_some {b : Block} {k : Fin 5} {c : Fin 4} : b.above k = some c ↔ c.val = k.val ∧ c.val < b.n.val := by
  simp only [Block.above, Option.dite_none_right_eq_some, Option.some.injEq, Fin.ext_iff]
  constructor
  · rintro ⟨hk, hc⟩; omega
  · rintro ⟨hc, hn⟩; exact ⟨by omega, by omega⟩

/-- Ck and Ck+1, wherever they exist (01, Level indices). -/
theorem Block.mem_beside {b : Block} {k : Fin 5} {c : Fin 4} :
    c ∈ b.beside k ↔ c.val + 1 = k.val ∨ (c.val = k.val ∧ c.val < b.n.val) := by
  simp [Block.beside, Block.below_eq_some, Block.above_eq_some]

theorem Block.beside_nodup (b : Block) (k : Fin 5) : (b.beside k).Nodup := by
  have distinct : ∀ c ∈ b.below k, ∀ c' ∈ b.above k, c ≠ c' := by
    intro c hc c' hc' heq
    have hc := Block.below_eq_some.1 hc
    have hc' := Block.above_eq_some.1 hc'
    subst heq; omega
  cases hl : b.below k <;> cases hu : b.above k <;> simp_all [Block.beside]

/-- A test of the chamber below k and of the chamber above it, as one of the chambers of the flight: what the level rule, the transfer
rule and the depth match are made of. -/
theorem Block.levels_all_iff {b : Block} {k : Fin 5} (hk : k ≤ b.n) {p q : Fin 4 → Bool} {P Q : Fin 4 → Prop}
    (hp : ∀ c, p c = true ↔ P c) (hq : ∀ c, q c = true ↔ Q c) :
    ((b.below k).all p && (b.above k).all q) = true ↔
      ∀ c : Fin 4, c.val < b.n.val → (c.val + 1 = k.val → P c) ∧ (c.val = k.val → Q c) := by
  rw [Bool.and_eq_true, Option.all_eq_true, Option.all_eq_true]
  simp only [Block.below_eq_some, Block.above_eq_some, hp, hq]
  constructor
  · rintro ⟨hbelow, habove⟩ c hc
    exact ⟨hbelow c, fun h => habove c ⟨h, hc⟩⟩
  · intro h
    exact ⟨fun c hc => (h c (by omega)).1 hc, fun c ⟨hc, hn⟩ => (h c hn).2 hc⟩

/-- A chamber of the flight beside section k stands so. -/
theorem Block.beside_any_iff {b : Block} {k : Fin 5} (hk : k ≤ b.n) {st : ChamberState} :
    (b.beside k).any (fun c => (b.chamber c).state == st) = true ↔
      ∃ c : Fin 4, (c.val < b.n.val ∧ (c.val + 1 = k.val ∨ c.val = k.val)) ∧ (b.chamber c).state = st := by
  simp only [List.any_eq_true, Block.mem_beside, beq_iff_eq]
  refine exists_congr fun c => and_congr_left fun _ => ?_
  omega

/-! ### Depth readings (01 R6) -/

theorem Block.depth_eq_low {b : Block} {c : Fin 4} :
    b.depth c = some .low ↔ b.reading (.lowFloat c) = some true ∧ b.reading (.highFloat c) = some false := by
  rw [Block.depth]
  rcases b.reading (.lowFloat c) with _ | _ | _ <;> rcases b.reading (.highFloat c) with _ | _ | _ <;> simp

theorem Block.depth_eq_high {b : Block} {c : Fin 4} :
    b.depth c = some .high ↔ b.reading (.lowFloat c) = some false ∧ b.reading (.highFloat c) = some true := by
  rw [Block.depth]
  rcases b.reading (.lowFloat c) with _ | _ | _ <;> rcases b.reading (.highFloat c) with _ | _ | _ <;> simp

theorem Block.depth_eq_invalid {b : Block} {c : Fin 4} :
    b.depth c = some .invalid ↔ b.reading (.lowFloat c) = some true ∧ b.reading (.highFloat c) = some true := by
  rw [Block.depth]
  rcases b.reading (.lowFloat c) with _ | _ | _ <;> rcases b.reading (.highFloat c) with _ | _ | _ <;> simp

/-! ### Loops over chambers -/

theorem Block.setChamberState_chamber (b : Block) (c d : Fin 4) (st : ChamberState) :
    (b.setChamberState c st).chamber d = if d = c then { b.chamber d with state := st } else b.chamber d := by
  by_cases hd : d = c
  · subst hd; simp [Block.setChamberState]
  · simp [Block.setChamberState, Block.setChamber_chamber_ne _ _ _ _ hd, hd]

/-- Some chambers given states: each of them takes its own, the others stand. -/
theorem Block.foldl_setChamberState_chamber (f : Fin 4 → ChamberState) (cs : List (Fin 4)) (b : Block) (c : Fin 4) :
    (cs.foldl (fun a c => a.setChamberState c (f c)) b).chamber c =
      if c ∈ cs then { b.chamber c with state := f c } else b.chamber c := by
  induction cs generalizing b with
  | nil => rfl
  | cons d cs ih =>
    rw [List.foldl_cons, ih, Block.setChamberState_chamber]
    by_cases hd : c = d
    · subst hd; simp
    · simp [hd]

theorem Block.makeUnknown_chamber (b : Block) (cs : List (Fin 4)) (c : Fin 4) :
    (b.makeUnknown cs).chamber c = if c ∈ cs then { b.chamber c with state := .unknown } else b.chamber c :=
  Block.foldl_setChamberState_chamber (fun _ => .unknown) cs b c

theorem Block.surveyStates_chamber (b : Block) (cs : List (Fin 4)) (c : Fin 4) :
    (b.surveyStates cs).chamber c = if c ∈ cs then { b.chamber c with state := b.surveyState c } else b.chamber c :=
  Block.foldl_setChamberState_chamber b.surveyState cs b c

/-- The chambers made UNKNOWN and a section record written, in either order. -/
theorem Block.unknownBeside_setSec (b : Block) (j k : Fin 5) (x : Section) :
    (b.setSec j x).unknownBeside k = (b.unknownBeside k).setSec j x :=
  List.foldl_hom (fun a : Block => a.setSec j x) fun _ _ => rfl

/-! ### The rows of the control houses -/

/-- The outcome of a request that stands alone in its link's queue and whose owner answers `a` (11 R188). -/
def Machine.State.serves (s : State) (lk : Link) (code tag : Byte) (payload : List Byte) (a : Answer) :
    Host.Outcome State Fault Refusal :=
  s.becomes (s.serveAlone lk code tag payload fun _ => a)

@[simp] theorem Machine.State.serves_plain (s : State) (lk : Link) (code tag : Byte) (payload : List Byte) (o : OutcomeCode) (b : Block) :
    s.serves lk code tag payload (.plain o b) = s.answers lk code tag o .none b := rfl

/-- The row of a request of a control house, taken now, is its owner's answer (11 R188, R190). -/
theorem exec_house {i : Instr} {s : State} {lk : Link} {code tag : Byte} {payload : List Byte} (hs : s.house lk)
    (hi : i.frame = some (lk, tag, code, payload)) (hc : ¬ (0x46 ≤ code.toNat ∧ code.toNat ≤ 0x48) := by decide)
    (hc' : code.toNat < 0x70 := by decide) : exec i s = s.serves lk code tag payload (i.own s.toBlock) := by
  obtain ⟨hready, hlk⟩ := hs
  rw [exec_request hi, Block.request, if_pos hready]
  simp only [permitted_house hlk hc hc', if_true]
  rfl

/-- A chain of checks, answered check by check: the first one that refuses gives the answer. -/
theorem elim_ite_some {α β : Type} {c : Prop} [Decidable c] {x : α} {rest : Option α} {d y : β} {f : α → β}
    (h : rest.elim d f = y) : (if c then some x else rest).elim d f = if c then f x else y := by
  split
  · rfl
  · exact h

end Sys2Proof
end

section
/-! Water, the level rule and the transfer rule, and the request TRANSFER: its checks and what it starts (01 R2, R3, R13, R14). -/
namespace Sys2Proof
open Machine

/-! ### The level rule and the transfer rule (O25) -/

theorem Block.gateLevel_iff {b : Block} {k : Fin 5} (hk : k ≤ b.n) :
    b.gateLevel k = true ↔
      ∀ c : Fin 4, c.val < b.n.val →
        (c.val + 1 = k.val → (b.chamber c).state = .full) ∧ (c.val = k.val → (b.chamber c).state = .empty) :=
  Block.levels_all_iff hk (fun _ => beq_iff_eq) (fun _ => beq_iff_eq)

theorem Block.transferPermitted_iff {b : Block} {k : Fin 5} (hk : k ≤ b.n) :
    b.transferPermitted k = true ↔
      ∀ c : Fin 4, c.val < b.n.val →
        (c.val + 1 = k.val → (b.chamber c).state = .empty) ∧ (c.val = k.val → (b.chamber c).state = .full) :=
  Block.levels_all_iff hk (fun _ => beq_iff_eq) (fun _ => beq_iff_eq)

/-- Settles O25: each rule speaks of the chambers of the flight beside the section. -/
theorem levelAndTransferRules : Obligations.LevelAndTransferRules := by
  refine ⟨fun b k hk => Block.gateLevel_iff hk, ?_⟩
  intro b k hk served stands permitted
  have standing (st : ChamberState) : (b.beside k).any (fun c => (b.chamber c).state == st) = true ↔ stands st :=
    Block.beside_any_iff hk
  have hpermitted : b.transferPermitted k = true ↔ permitted :=
    (Block.transferPermitted_iff hk).trans
      (forall_congr' fun c => ⟨fun h hc => h hc.1, fun h hn => ⟨fun hc => (h ⟨hn, .inl hc⟩).1 hc, fun hc => (h ⟨hn, .inr hc⟩).2 hc⟩⟩)
  simp only [Block.transferAnswer, standing, hpermitted]
  refine ⟨fun busy => ?_, fun free unknown => ?_, fun free known allowed => ?_, fun free known refused => ?_⟩
  · rw [if_pos busy]
  · rw [if_neg free, if_pos unknown]
  · rw [if_neg free, if_neg known, if_pos allowed]
  · rw [if_neg free, if_neg known, if_neg refused]

/-! ### The start of a transfer (O26) -/

theorem Block.nearGateOpen_iff {b : Block} {k : Fin 5} :
    b.nearGateOpen k = true ↔
      ∃ j : Fin 5, j ≤ b.n ∧ (j = k ∨ j.val + 1 = k.val ∨ j.val = k.val + 1) ∧ (b.sec j).gate ≠ .closed := by
  simp [Block.nearGateOpen, Block.mem_nearSections, and_assoc]

theorem Block.neighbourSluiceOpen_iff {b : Block} {k : Fin 5} :
    b.neighbourSluiceOpen k = true ↔
      ∃ j : Fin 5, j ≤ b.n ∧ (j.val + 1 = k.val ∨ j.val = k.val + 1) ∧ (b.sec j).sluice ≠ .shut := by
  simp only [Block.neighbourSluiceOpen, List.any_eq_true, Block.mem_nearSections, Bool.and_eq_true, bne_iff_ne]
  refine exists_congr fun j => ?_
  constructor
  · rintro ⟨⟨hn, hj⟩, hne, hs⟩
    exact ⟨hn, hj.resolve_left hne, hs⟩
  · rintro ⟨hn, hj, hs⟩
    exact ⟨⟨hn, .inr hj⟩, fun h => by subst h; omega, hs⟩

/-- An accepted TRANSFER, record by record (01 R14, 04 R73). -/
theorem Block.startTransfer_eq (b : Block) (k : Fin 5) :
    b.startTransfer k =
      ((((b.beside k).foldl (fun a c => a.setChamberState c .transfer) b).setSec k
          { b.sec k with
            sluice := .cracked, transfer := some { start := b.clock, phase := .crack, cause := none, captured := none } }).setDrive k
          { b.drive k with paddleCrack := true }).setTimer k
        { b.timer k with
          transfer :=
            Channel.transferStart (b.config.sections[k]).crackDelay (b.config.sections[k]).transferLimit (b.config.sections[k]).shutLimit
              (b.timer k).transfer } := by
  have filled : b.keeps ((b.beside k).foldl (fun a c => a.setChamberState c .transfer) b) [.chambers] :=
    keeps_foldl (fun a c => a.setChamberState_keeps c _) _ _
  simp only [Block.startTransfer, Block.latch_setCrack]
  rw [filled.eq_with_chambers]
  rfl

/-- What TRANSFER answers to the transfer rule (01 R13). -/
def TransferAnswer.refusal (a : TransferAnswer) : Option OutcomeCode :=
  match a with
  | .busy => some .inProgress
  | .unknown | .refused => some .notLevel
  | .permitted => none

theorem Block.transferCheck_eq (b : Block) (lk : Link) (k : Fin 5) :
    b.transferCheck lk k =
      if b.cond.condition ≠ .service then some .wrongCondition
      else if (b.sec k).holder ≠ some lk then some .notHolder
      else if (b.sec k).mode = .manual then some .manualActive
      else if (b.sec k).fault ≠ none then some .faultPending
      else if (b.sec k).sluice ≠ .shut then some .inProgress
      else if b.nearGateOpen k then some .inProgress
      else if b.neighbourSluiceOpen k then some .inProgress
      else if b.reachOut k then some .reachOut
      else (b.transferAnswer k).refusal := by
  have held : (!(b.sec k).heldBy lk) = true ↔ (b.sec k).holder ≠ some lk := by simp [Section.heldBy]
  simp only [Block.transferCheck, held, Option.isSome_iff_ne_none]
  rfl

/-- TRANSFER once its checks are done: the head sensor, and the start (01 R13, R14; 04 R67). -/
def Block.transferChecked (b : Block) (k : Fin 5) : Answer :=
  match b.reading (.head k) with
  | some true => .plain .sensorDisagree (b.headFault k)
  | none => .plain .sensorDisagree b
  | some false => .plain .accepted (b.startTransfer k)

/-- The row of TRANSFER: what its checks refuse, else what follows them. -/
theorem exec_transfer {s : State} {lk : Link} {tag kByte : Byte} {k : Fin 5} (hs : s.asks lk kByte k) :
    exec (.transfer lk tag kByte) s =
      (s.transferCheck lk k).elim (s.serves lk 0x30 tag [kByte] (s.transferChecked k))
        (fun o => s.answers lk 0x30 tag o .none s.toBlock) := by
  rw [exec_house hs.1 rfl]
  simp only [Instr.own, ownTransfer, hs.2]
  cases s.transferCheck lk k <;> rfl

/-- Settles O26, check by check along the chain of R13, then by the head sensor's reading. -/
theorem transfer : Obligations.Transfer := by
  refine ⟨fun b k => ⟨Block.nearGateOpen_iff, Block.neighbourSluiceOpen_iff⟩, ?_⟩
  intro s lk tag kByte k hs
  rw [exec_transfer hs, Block.transferCheck_eq]
  dsimp only
  iterate 8 refine elim_ite_some ?_
  cases s.transferAnswer k
  case permitted =>
    dsimp only [TransferAnswer.refusal, Option.elim, Block.transferChecked]
    rcases s.reading (.head k) with _ | _ | _
    · rfl
    · exact congrArg (s.answers lk 0x30 tag .accepted .none) (s.startTransfer_eq k)
    · rfl
  all_goals rfl

end Sys2Proof
end

section
/-! Water, the running transfer: the causes it is given, the events of its channel, and what they shut (01 R4, R9 to R11, R15 to R18). -/
namespace Sys2Proof
open Machine

/-! ### The causes of a running transfer (O27) -/

theorem Block.transferOf_eq (b : Block) (c : Fin 4) :
    b.transferOf c =
      if (b.sec c.castSucc).transfer ≠ none then some c.castSucc
      else if (b.sec c.succ).transfer ≠ none then some c.succ
      else none := by
  simp only [Block.transferOf, gatesOf, List.find?_cons, List.find?_nil]
  cases (b.sec c.castSucc).transfer <;> cases (b.sec c.succ).transfer <;> rfl

/-- A running transfer's record written and its sluice made SHUTTING, both paddle latches reset (01 R12, 04 R79). -/
theorem Block.setTransfer_shutting (b : Block) (k : Fin 5) (r : Option TransferRec) :
    ((b.setTransfer k r).latch k latchNone latchPaddles).setSluice k .shutting =
      (b.setSec k { b.sec k with sluice := .shutting, transfer := r }).setDrive k
        { b.drive k with paddleCrack := false, paddleFull := false } := by
  simp only [Block.latch_resetPaddles, Block.setTransfer, Block.setSluice, Block.setDrive_setSec, Block.setDrive_get_sec,
    Block.setSec_sec, Block.setSec_setSec, Block.setSec_get_drive]

section GiveCause
variable {b : Block} {k : Fin 5} {cause : Cause} {r : TransferRec}

theorem Block.giveCause_idle (hx : (b.sec k).transfer = none) : b.giveCause k cause = b := by
  simp only [Block.giveCause, hx]

/-- The first cause stands (01 R18). -/
theorem Block.giveCause_given (hx : (b.sec k).transfer = some r) (hr : r.cause ≠ none) : b.giveCause k cause = b := by
  simp only [Block.giveCause, hx, Option.isSome_iff_ne_none.2 hr, if_true]

theorem Block.giveCause_shutWait (hx : (b.sec k).transfer = some r) (hr : r.cause = none) (hp : r.phase = .shutWait) :
    b.giveCause k cause = b.setSec k { b.sec k with transfer := some { r with cause := some cause } } := by
  simp only [Block.giveCause, hx, hr, hp, Option.isSome_none, Bool.false_eq_true, if_false, if_true, Block.setTransfer]

theorem Block.giveCause_drawn (hx : (b.sec k).transfer = some r) (hr : r.cause = none) (hp : r.phase ≠ .shutWait) :
    b.giveCause k cause =
      ((b.setSec k
          { b.sec k with
            sluice := .shutting, transfer := some { r with cause := some cause, phase := .shutWait } }).setDrive k
          { b.drive k with paddleCrack := false, paddleFull := false }).setTimer k
        { b.timer k with
          transfer := Machine.Channel.shutStart (b.config.sections[k]).shutLimit (b.timer k).transfer } := by
  simp only [Block.giveCause, hx, hr, hp, Option.isSome_none, Bool.false_eq_true, if_false, Block.shutSluice,
    Block.setTransfer_shutting]
  rfl

end GiveCause

/-- ABORT TRANSFER by a holder or another, on a running transfer or none (01 R18). -/
theorem exec_abortTransfer {s : State} {lk : Link} {tag kByte : Byte} {k : Fin 5} (hs : s.asks lk kByte k) :
    exec (.abortTransfer lk tag kByte) s =
      if (s.sec k).holder ≠ some lk then s.answers lk 0x31 tag .notHolder .none s.toBlock
      else
        match (s.sec k).transfer with
        | none => s.answers lk 0x31 tag .already .none s.toBlock
        | some r =>
          if r.cause = none then s.answers lk 0x31 tag .done .none (s.giveCause k .aborted)
          else s.answers lk 0x31 tag .already .none s.toBlock := by
  rw [exec_house hs.1 rfl]
  simp only [Instr.own, ownAbortTransfer, hs.2]
  by_cases hholder : (s.sec k).holder = some lk
  · rw [if_neg (not_not_intro hholder), if_neg (by simp [Section.heldBy, hholder])]
    rcases (s.sec k).transfer with _ | ⟨start, phase, _ | cause, captured⟩ <;> rfl
  · rw [if_pos hholder, if_pos (by simp [Section.heldBy, hholder])]
    rfl

/-- A level fault of R9 at one chamber. -/
theorem Block.levelFault_false (b : Block) (c : Fin 4) :
    Block.levelFault false b c =
      match (b.chamber c).state with
      | .unknown => b
      | .transfer => ((b.transferOf c).elim b (fun k => b.giveCause k .aborted)).raise (.levelFault c)
      | _ => (b.setChamber c { b.chamber c with state := .unknown }).raise (.levelFault c) := by
  cases hst : (b.chamber c).state <;> simp only [Block.levelFault, hst]
  case transfer => cases b.transferOf c <;> rfl
  all_goals rfl

/-- Settles O27: one equation for each case of a cause, a band arrival and a level fault. -/
theorem transferCauses : Obligations.TransferCauses := by
  refine ⟨Block.transferOf_eq, fun s lk tag kByte k hs => exec_abortTransfer hs, fun b k cause => ?_, fun b side before => ?_,
    Block.levelFault_false, fun b k => rfl⟩
  · exact ⟨Block.giveCause_idle, fun r hx => ⟨Block.giveCause_given hx, Block.giveCause_shutWait hx, Block.giveCause_drawn hx⟩⟩
  · exact ⟨rfl, rfl, rfl⟩

/-! ### The events of a transfer's channel (O28) -/

theorem exec_compare (s : State) (k : Fin 5) : exec (.compare k) s = s.becomes (s.compareEvent k) := rfl
theorem exec_expiryLimit (s : State) (k : Fin 5) : exec (.expiryLimit k) s = s.becomes (s.limitExpiry k) := rfl

section Events
variable {b : Block} {k : Fin 5} {r : TransferRec}

theorem Block.compareEvent_idle (hx : (b.sec k).transfer = none) : b.compareEvent k = b := by simp only [Block.compareEvent, hx]
theorem Block.limitExpiry_idle (hx : (b.sec k).transfer = none) : b.limitExpiry k = b := by simp only [Block.limitExpiry, hx]

theorem Block.compareEvent_running (hx : (b.sec k).transfer = some r) :
    b.compareEvent k =
      if r.cause = none ∧ r.phase = .crack ∧ (b.timer k).transfer.state = .running ∧ (b.timer k).transfer.dir = .up ∧
          (b.timer k).transfer.count = (b.timer k).transfer.compare then
        (let opened := b.setSec k { b.sec k with sluice := .opened, transfer := some { r with phase := .full } }
         match (b.sec k).mode with
         | .auto => opened.setDrive k { b.drive k with paddleFull := true }
         | .manual => opened)
      else b := by
  simp only [Block.compareEvent, hx, Block.latch_setFull]
  refine if_congr (by tauto) ?_ rfl
  cases (b.sec k).mode <;> rfl

theorem Block.limitExpiry_running (hx : (b.sec k).transfer = some r) :
    b.limitExpiry k =
      if r.cause = none ∧ r.phase ≠ .shutWait ∧ (b.timer k).transfer.state = .running ∧ (b.timer k).transfer.dir = .down then
        (b.setSec k
            { b.sec k with
              sluice := .shutting, transfer := some { r with phase := .shutWait, cause := some .timeout } }).setDrive k
          { b.drive k with paddleCrack := false, paddleFull := false }
      else b := by
  simp only [Block.limitExpiry, hx, Block.setTransfer_shutting]
  exact if_congr (by tauto) rfl rfl

/-- The channels that capture are those STARTING, with 0, and those that count UP, with their count (04 R74). -/
theorem Channel.captureOf_eq (ch : Channel) :
    ch.captureOf =
      if ch.state = .starting ∨ (ch.state = .running ∧ ch.dir = .up) then some (if ch.state = .starting then 0 else ch.count)
      else none := by
  rcases ch with ⟨_ | _ | _ | _, count, reload, compare, limit, capture, _ | _⟩ <;> rfl

/-- A LEVEL arrival that captures `n`: the channel turns, and a transfer in CRACK or FULL without a cause shuts its sluice (01 R16). -/
theorem Block.captureEvent_captured {n : Nat} (hn : (b.timer k).transfer.captureOf = some n) :
    b.captureEvent k =
      (let captured := b.setTimer k { b.timer k with transfer := (b.timer k).transfer.captured n }
       match (b.sec k).transfer with
       | some r =>
         if r.phase ≠ .shutWait ∧ r.cause = none then
           (captured.setSec k
               { b.sec k with sluice := .shutting, transfer := some { r with phase := .shutWait, captured := some n } }).setDrive k
             { b.drive k with paddleCrack := false, paddleFull := false }
         else captured
       | none => captured) := by
  simp only [Block.captureEvent, hn, Block.setTransfer_shutting]
  cases (b.sec k).transfer <;> rfl

end Events

/-- Settles O28, by whether a transfer runs and whether its channel captures. -/
theorem transferPhases : Obligations.TransferPhases := by
  refine ⟨fun s k => ⟨fun hx => ?_, fun r hx => ?_⟩, fun b k => ?_⟩
  · rw [exec_compare, exec_expiryLimit, Block.compareEvent_idle hx, Block.limitExpiry_idle hx]
    exact ⟨rfl, rfl⟩
  · rw [exec_compare, exec_expiryLimit, Block.compareEvent_running hx, Block.limitExpiry_running hx]
    exact ⟨apply_ite s.becomes .., apply_ite s.becomes ..⟩
  · change b.captureEvent k = _
    have captures := Channel.captureOf_eq (b.timer k).transfer
    dsimp only
    split at captures
    case isTrue hup =>
      rw [if_pos hup, Block.captureEvent_captured captures]
      rfl
    case isFalse hdown => rw [if_neg hdown, Block.captureEvent, captures]

end Sys2Proof
end

section
/-! Water, the ends of a transfer: the paddle proof got and lost, the levels and the lockage decision of a success, and EXPIRY_SHUT (01 R10,
R12, R19 to R21). -/
namespace Sys2Proof
open Machine

/-! ### The paddle proof (O29) -/

/-- A sluice proven shut: its record written, its channel IDLE (01 R12, R19). -/
def Block.provenShut (b : Block) (k : Fin 5) (x : Section) : Block :=
  (b.setSec k { x with sluice := .shut }).setTimer k
    { b.timer k with transfer := { (b.timer k).transfer with state := .idle } }

section PaddleProof
variable {b : Block} {k : Fin 5} {r : TransferRec}

theorem Block.paddleArrival_proven_idle (hs : (b.sec k).sluice = .shutting) (hx : (b.sec k).transfer = none) :
    b.paddleArrival k true = b.provenShut k (b.sec k) := by
  simp only [Block.paddleArrival, hs, hx]; rfl

theorem Block.paddleArrival_proven_running (hs : (b.sec k).sluice = .shutting) (hx : (b.sec k).transfer = some r) :
    b.paddleArrival k true = b.endTransfer k r := by
  simp only [Block.paddleArrival, hs, hx]

/-- A proof got anywhere else changes nothing. -/
theorem Block.paddleArrival_proven_else (hs : (b.sec k).sluice ≠ .shutting) : b.paddleArrival k true = b := by
  cases h : (b.sec k).sluice <;> simp_all [Block.paddleArrival]

/-- A proof lost at a SHUT sluice that nothing draws (01 R10). -/
theorem Block.paddleArrival_lost (hs : (b.sec k).sluice = .shut) (hcrack : (b.drive k).paddleCrack = false)
    (hfull : (b.drive k).paddleFull = false) : b.paddleArrival k false = b.loseProof k := by
  simp only [Block.paddleArrival, hs, hcrack, hfull, Bool.or_false, Bool.false_eq_true, if_false]

/-- A proof lost at a sluice that is drawn or not SHUT changes nothing. -/
theorem Block.paddleArrival_lost_else
    (h : (b.sec k).sluice ≠ .shut ∨ (b.drive k).paddleCrack = true ∨ (b.drive k).paddleFull = true) : b.paddleArrival k false = b := by
  cases hs : (b.sec k).sluice <;> simp_all [Block.paddleArrival]

/-- A transfer with a cause ends as that cause (01 R19). -/
def Cause.fault (c : Cause) : TransferEnd :=
  match c with
  | .timeout => .timeout
  | .aborted => .aborted
  | .reachOut => .reachOut

theorem Block.transferEnd_caused {c : Cause} (hr : r.cause = some c) : b.transferEnd k r = some c.fault := by
  cases c <;> simp only [Block.transferEnd, hr] <;> rfl

theorem Block.transferEnd_free (hr : r.cause = none) :
    b.transferEnd k r =
      if r.captured.getD 0 < (b.config.sections[k]).minTransfer then some .short
      else if b.depthsMatch k = false then some .depthMismatch
      else none := by
  simp only [Block.transferEnd, hr, Bool.not_eq_true']

/-- A faulty end: the chambers UNKNOWN and TRANSFER_FAULT, then the LEVEL_FAULTs of a SHORT or DEPTH_MISMATCH (01 R19). -/
theorem Block.endTransfer_fault {why : TransferEnd} (h : b.transferEnd k r = some why) :
    b.endTransfer k r =
      (let ended := ((b.provenShut k { b.sec k with transfer := none, lastTicks := r.captured.getD 0 }).unknownBeside k).raise
          (.transferFault k why)
       if why = .short ∨ why = .depthMismatch then ended.tellLevelFaults (b.beside k) else ended) := by
  simp only [Block.endTransfer, h]; rfl

theorem Block.endTransfer_success (h : b.transferEnd k r = none) :
    b.endTransfer k r =
      (((b.provenShut k { b.sec k with transfer := none, lastTicks := r.captured.getD 0 }).levelled k).raise
        (.transferDone k (r.captured.getD 0))).lockageDecision k := by
  simp only [Block.endTransfer, h]; rfl

end PaddleProof

/-- A lost proof tells of an UNKNOWN chamber too (01 R10, log 10). -/
theorem Block.levelFault_true (b : Block) (c : Fin 4) :
    Block.levelFault true b c = if (b.chamber c).state = .unknown then b.raise (.levelFault c) else Block.levelFault false b c := by
  cases h : (b.chamber c).state <;> simp [Block.levelFault, h]

/-- When the depth readings match (01 R6, R19). -/
theorem Block.depthsMatch_iff {b : Block} {k : Fin 5} (hk : k ≤ b.n) :
    b.depthsMatch k = true ↔
      ∀ c : Fin 4, c.val < b.n.val →
        (c.val + 1 = k.val → b.reading (.lowFloat c) = some false ∧ b.reading (.highFloat c) = some true) ∧
        (c.val = k.val → b.reading (.lowFloat c) = some true ∧ b.reading (.highFloat c) = some false) :=
  Block.levels_all_iff hk (fun _ => beq_iff_eq.trans Block.depth_eq_high) (fun _ => beq_iff_eq.trans Block.depth_eq_low)

/-! ### The lockage decision -/

section Lockage
variable {b : Block} {k : Fin 5}

theorem Block.countLockage_chamber_ne {served : Bool} {c d : Fin 4} (h : c ≠ d) :
    (Block.countLockage served b d).chamber c = b.chamber c := by
  unfold Block.countLockage
  dsimp only
  split_ifs <;> simp [Block.setChamber_chamber_ne _ _ _ _ h]

@[simp] theorem Block.countLockage_list (served : Bool) (b : Block) (c d : Fin 4) : (Block.countLockage served b d).list c = b.list c := by
  simp only [Block.list, (Block.countLockage_keeps b served d).lists]

/-- What one chamber counts depends on its record and its list alone. -/
theorem Block.countLockage_chamber_congr {a : Block} {served : Bool} {c : Fin 4} (hc : a.chamber c = b.chamber c)
    (hl : a.list c = b.list c) : (Block.countLockage served a c).chamber c = (Block.countLockage served b c).chamber c := by
  simp only [Block.countLockage, hc, hl]
  split_ifs <;> simp [hc]

/-- The chambers of a lockage each count their own. -/
theorem Block.foldl_countLockage_chamber (served : Bool) (c : Fin 4) {cs : List (Fin 4)} (hcs : cs.Nodup) (b : Block) :
    (cs.foldl (Block.countLockage served) b).chamber c =
      if c ∈ cs then (Block.countLockage served b c).chamber c else b.chamber c := by
  induction cs generalizing b with
  | nil => rfl
  | cons d cs ih =>
    obtain ⟨hd, hcs⟩ := List.nodup_cons.1 hcs
    rw [List.foldl_cons, ih hcs]
    by_cases hc : c = d
    · subst hc; simp [hd]
    · have same := Block.countLockage_chamber_ne (b := b) (served := served) hc
      simp [hc, same, Block.countLockage_chamber_congr same]

theorem Block.countLockage_occupied {c : Fin 4} (h : b.list c ≠ []) :
    (Block.countLockage true b c).chamber c = { b.chamber c with lockages := (b.chamber c).lockages + 1 } := by
  simp [Block.countLockage, h]

theorem Block.countLockage_vacant {c : Fin 4} (h : b.list c = []) : (Block.countLockage true b c).chamber c = b.chamber c := by
  simp [Block.countLockage, h]

theorem Block.countLockage_empty (b : Block) (c : Fin 4) :
    (Block.countLockage false b c).chamber c = { b.chamber c with emptyLockages := (b.chamber c).emptyLockages + 1 } := by
  simp [Block.countLockage]

theorem Block.giveShare_exempt {v : Fin 16} (h : (b.vessel v).exempt = true) (share : Nat) :
    b.giveShare v share =
      (b.setVessel v { b.vessel v with lockageCount := countUp 255 (b.vessel v).lockageCount }).setAcct
        { b.acct with writeOff := addMoney b.acct.writeOff share } := by
  rw [Block.giveShare, if_pos h]

theorem Block.giveShare_charged {v : Fin 16} (h : ¬ (b.vessel v).exempt = true) (share : Nat) :
    b.giveShare v share =
      b.setVessel v
        { b.vessel v with
          lockageCount := countUp 255 (b.vessel v).lockageCount, lockageTotal := addMoney (b.vessel v).lockageTotal share } := by
  rw [Block.giveShare, if_neg h]

/-- The Account Unit charges a lockage whatever the chambers hold. -/
theorem Block.lockageEvent_chambers (b : Block) (chambers : Vector Chamber 4) (occupants : List (Fin 16)) :
    Block.lockageEvent { b with chambers := chambers } occupants = { b.lockageEvent occupants with chambers := chambers } := by
  refine List.foldl_hom (fun a : Block => { a with chambers := chambers }) fun a v => ?_
  by_cases h : (a.vessel v).exempt = true
  · rw [Block.giveShare_exempt h, Block.giveShare_exempt (b := { a with chambers := chambers }) h]; rfl
  · rw [Block.giveShare_charged h, Block.giveShare_charged (b := { a with chambers := chambers }) h]; rfl

/-- A lockage with a vessel: the chambers count it and the occupants are handed to the Account Unit (01 R21). -/
theorem Block.lockageDecision_served (h : b.occupants k ≠ []) :
    b.lockageDecision k =
      { b.lockageEvent (b.occupants k) with chambers := ((b.beside k).foldl (Block.countLockage true) b).chambers } := by
  have counted := keeps_foldl (fun a c => Block.countLockage_keeps a true c) (b.beside k) b
  simp only [Block.lockageDecision, List.isEmpty_eq_false_iff.2 h, Bool.not_false, Bool.false_eq_true, if_false]
  rw [counted.eq_with_chambers, Block.lockageEvent_chambers]

/-- An empty lockage (01 R21). -/
theorem Block.lockageDecision_empty (h : b.occupants k = []) :
    b.lockageDecision k = (b.beside k).foldl (Block.countLockage false) b := by
  simp only [Block.lockageDecision, h, List.isEmpty_nil, Bool.not_true, if_true]

/-- The occupants are those of the chamber below, then those of the chamber above. -/
theorem Block.occupants_eq (b : Block) (k : Fin 5) :
    b.occupants k =
      (if h : 0 < k.val then b.list ⟨k.val - 1, by omega⟩ else []) ++ (if h : k.val < b.n.val then b.list ⟨k.val, by omega⟩ else []) := by
  simp only [Block.occupants, Block.beside, Block.below, Block.above]
  split_ifs <;> simp

/-- What each chamber counts at a lockage. -/
theorem Block.lockageDecision_chamber (b : Block) (k : Fin 5) (c : Fin 4) :
    (b.lockageDecision k).chamber c =
      if c ∈ b.beside k then (Block.countLockage (!(b.occupants k).isEmpty) b c).chamber c else b.chamber c := by
  rw [← Block.foldl_countLockage_chamber _ _ (b.beside_nodup k)]
  by_cases h : b.occupants k = []
  · rw [Block.lockageDecision_empty h, h]; rfl
  · rw [Block.lockageDecision_served h, List.isEmpty_eq_false_iff.2 h]; rfl

theorem Block.lockageDecision_chamber_occupied (h : b.occupants k ≠ []) {c : Fin 4} (hc : c ∈ b.beside k) (hl : b.list c ≠ []) :
    (b.lockageDecision k).chamber c = { b.chamber c with lockages := (b.chamber c).lockages + 1 } := by
  rw [Block.lockageDecision_chamber, if_pos hc, List.isEmpty_eq_false_iff.2 h]
  exact Block.countLockage_occupied hl

theorem Block.lockageDecision_chamber_vacant (h : b.occupants k ≠ []) {c : Fin 4} (hc : c ∈ b.beside k) (hl : b.list c = []) :
    (b.lockageDecision k).chamber c = b.chamber c := by
  rw [Block.lockageDecision_chamber, if_pos hc, List.isEmpty_eq_false_iff.2 h]
  exact Block.countLockage_vacant hl

theorem Block.lockageDecision_chamber_empty (h : b.occupants k = []) {c : Fin 4} (hc : c ∈ b.beside k) :
    (b.lockageDecision k).chamber c = { b.chamber c with emptyLockages := (b.chamber c).emptyLockages + 1 } := by
  rw [Block.lockageDecision_chamber, if_pos hc, h]
  exact Block.countLockage_empty b c

end Lockage

/-! ### The levels a success leaves -/

theorem Block.elim_setChamberState_chamber (o : Option (Fin 4)) (b : Block) (st : ChamberState) (c : Fin 4) :
    (o.elim b (fun d => b.setChamberState d st)).chamber c = if o = some c then { b.chamber c with state := st } else b.chamber c := by
  cases o with
  | none => rfl
  | some d => simp [Block.setChamberState_chamber, eq_comm]

theorem Block.levelled_chamber (b : Block) (k : Fin 5) (c : Fin 4) :
    (b.levelled k).chamber c =
      if c.val + 1 = k.val then { b.chamber c with state := .full }
      else if c.val = k.val ∧ c.val < b.n.val then { b.chamber c with state := .empty }
      else b.chamber c := by
  simp only [Block.levelled, Block.elim_setChamberState_chamber, Block.below_eq_some, Block.above_eq_some]
  split_ifs <;> first | rfl | omega

theorem Block.levelled_eq (b : Block) (k : Fin 5) :
    b.levelled k =
      { b with
        chambers := Vector.ofFn fun c =>
          if c.val + 1 = k.val then { b.chamber c with state := .full }
          else if c.val = k.val ∧ c.val < b.n.val then { b.chamber c with state := .empty }
          else b.chamber c } :=
  (b.levelled_keeps k).eq_ofFn_chambers (b.levelled_chamber k)

theorem Block.levelled_gateLevel {b : Block} {k : Fin 5} (hk : k ≤ b.n) : (b.levelled k).gateLevel k = true := by
  have hn : (b.levelled k).n = b.n := congrArg ConfigSet.n (b.levelled_keeps k).config
  refine (Block.gateLevel_iff (hn.symm ▸ hk)).2 fun c hc => ?_
  rw [hn] at hc
  rw [Block.levelled_chamber]
  constructor
  · intro hbelow; rw [if_pos hbelow]
  · intro habove; rw [if_neg (by omega), if_pos ⟨habove, hc⟩]

/-! ### EXPIRY_SHUT -/

/-- The fault record that SHUT_FAIL leaves (02 R24); `again` is the repeat mark of a new one (01 R20). -/
theorem Block.enterFault_eq (b : Block) (k : Fin 5) (kind : FaultKind) (again : Bool) :
    b.enterFault k kind again =
      b.setSec k
        { b.sec k with
          fault :=
            match (b.sec k).fault with
            | some f => some { f with repeated := true }
            | none => some { kind := kind, stamp := b.clock, repeated := again } } := by
  simp only [Block.enterFault]
  cases (b.sec k).fault <;> rfl

section ShutExpiry
variable {b : Block} {k : Fin 5} {r : TransferRec}

/-- EXPIRY_SHUT outside a transfer (02 R44). -/
theorem Block.shutExpiry_idle (hs : (b.sec k).sluice = .shutting) (he : (b.timer k).transfer.state = .ended)
    (hx : (b.sec k).transfer = none) :
    b.shutExpiry k = ((b.setSluice k .fault).stopTransferChannel k).gateFault k .shutFail := by
  rw [Block.shutExpiry, if_pos ⟨hs, he⟩]
  simp only [hx]

/-- EXPIRY_SHUT under a transfer: it ends as SHUT_FAIL, its chambers UNKNOWN (01 R20). -/
theorem Block.shutExpiry_running (hs : (b.sec k).sluice = .shutting) (he : (b.timer k).transfer.state = .ended)
    (hx : (b.sec k).transfer = some r) :
    b.shutExpiry k =
      (((((b.setSluice k .fault).stopTransferChannel k).unknownBeside k).setSec k
        { b.sec k with
          sluice := .fault, transfer := none, lastTicks := r.captured.getD 0,
          fault :=
            match (b.sec k).fault with
            | some f => some { f with repeated := true }
            | none => some { kind := .shutFail, stamp := b.clock, repeated := r.cause.isSome } }).raise
        (.transferFault k .shutFail)) := by
  rw [Block.shutExpiry, if_pos ⟨hs, he⟩]
  simp only [hx, Block.enterFault_eq, Block.unknownBeside_setSec, Block.setSec_sec, Block.setSec_setSec, Block.stopTransferChannel,
    Block.setSluice, Block.setTimer_get_sec, Block.setTimer_get_clock, Block.setSec_get_clock]

/-- EXPIRY_SHUT that is not due changes nothing (log 1). -/
theorem Block.shutExpiry_else (h : ¬ ((b.sec k).sluice = .shutting ∧ (b.timer k).transfer.state = .ended)) : b.shutExpiry k = b := by
  rw [Block.shutExpiry, if_neg h]

end ShutExpiry

/-! ### The parts of O29 -/

/-- A proof got ends the shutting, and a transfer as its record says. -/
theorem Block.paddleArrival_proven (b : Block) (k : Fin 5) (hs : (b.sec k).sluice = .shutting) :
    ((b.sec k).transfer = none → b.paddleArrival k true = b.provenShut k (b.sec k)) ∧
    (∀ r, (b.sec k).transfer = some r →
      let n := r.captured.getD 0
      let shut := b.provenShut k { b.sec k with transfer := none, lastTicks := n }
      b.paddleArrival k true =
        match r.cause with
        | some c => (shut.unknownBeside k).raise (.transferFault k c.fault)
        | none =>
          if n < (b.config.sections[k]).minTransfer then ((shut.unknownBeside k).raise (.transferFault k .short)).tellLevelFaults (b.beside k)
          else if b.depthsMatch k = false then
            ((shut.unknownBeside k).raise (.transferFault k .depthMismatch)).tellLevelFaults (b.beside k)
          else ((shut.levelled k).raise (.transferDone k n)).lockageDecision k) := by
  refine ⟨Block.paddleArrival_proven_idle hs, fun r hx => ?_⟩
  dsimp only
  rw [Block.paddleArrival_proven_running hs hx]
  cases hr : r.cause with
  | some c =>
    rw [Block.endTransfer_fault (Block.transferEnd_caused hr)]
    cases c <;> rfl
  | none =>
    have ended := Block.transferEnd_free (b := b) (k := k) hr
    dsimp only
    by_cases hshort : r.captured.getD 0 < (b.config.sections[k]).minTransfer
    · rw [if_pos hshort] at ended ⊢
      rw [Block.endTransfer_fault ended]; rfl
    rw [if_neg hshort] at ended ⊢
    by_cases hdepth : b.depthsMatch k = false
    · rw [if_pos hdepth] at ended ⊢
      rw [Block.endTransfer_fault ended]; rfl
    · rw [if_neg hdepth] at ended ⊢
      rw [Block.endTransfer_success ended]

/-- Settles O29, part by part: the proof got and lost, the lockage decision by the occupants, the levels, and EXPIRY_SHUT. -/
theorem transferEnds : Obligations.TransferEnds := by
  refine ⟨fun b k hs => b.paddleArrival_proven k hs, ⟨fun b k => ?_, Block.levelFault_true, fun b k c _ => Block.mem_beside,
    fun b k hk => Block.depthsMatch_iff hk⟩, ?_, fun b k hk => ?_, ?_⟩
  · exact ⟨Block.paddleArrival_lost, Block.paddleArrival_lost_else, Block.paddleArrival_proven_else⟩
  · intro b k _ lower upper handed b'
    have hocc : b.occupants k = lower ++ upper := b.occupants_eq k
    refine ⟨fun h => ?_, fun hlower hupper => ?_, fun lo hi hlo hhi hn hllo hlhi => ?_, fun c hc => ?_,
      (b.lockageDecision_keeps k).eq_with_chambers_vessels_acct⟩
    · have occupied : b.occupants k ≠ [] := hocc ▸ h
      have served := Block.lockageDecision_served occupied
      rw [hocc] at served
      exact ⟨(congrArg Block.vessels served :), (congrArg Block.acct served :), fun c hc =>
        ⟨Block.lockageDecision_chamber_occupied occupied hc, Block.lockageDecision_chamber_vacant occupied hc⟩⟩
    · have vacant : b.occupants k = [] := by rw [hocc, hlower, hupper]; rfl
      have counted : b.keeps b' [.chambers] := by
        simp only [b', Block.lockageDecision_empty vacant]
        exact keeps_foldl (fun a c => Block.countLockage_keeps a false c) _ _
      exact ⟨counted.vessels, counted.acct, fun c hc => Block.lockageDecision_chamber_empty vacant hc⟩
    · have hbelow : b.below k = some lo := Block.below_eq_some.2 hlo
      have habove : b.above k = some hi := Block.above_eq_some.2 ⟨hhi, hn⟩
      have crossing : b.occupants k = b.list lo ++ b.list hi := by simp [Block.occupants, Block.beside, hbelow, habove]
      have occupied : b.occupants k ≠ [] := by simp [crossing, hllo]
      refine ⟨hocc.symm.trans crossing, ?_, ?_⟩
      · exact congrArg Chamber.lockages (Block.lockageDecision_chamber_occupied occupied (Block.mem_beside.2 (.inl hlo)) hllo)
      · exact congrArg Chamber.lockages (Block.lockageDecision_chamber_occupied occupied (Block.mem_beside.2 (.inr ⟨hhi, hn⟩)) hlhi)
    · exact (b.lockageDecision_chamber k c).trans (if_neg hc)
  · refine ⟨b.levelled_eq k, fun c => ?_, Block.levelled_gateLevel hk⟩
    rw [b.levelled_chamber k c]
    split_ifs <;> rfl
  · intro s k
    change s.becomes (s.shutExpiry k) = _
    dsimp only
    split
    case isTrue due =>
      split
      next hx => rw [Block.shutExpiry_idle due.1 due.2 hx]; rfl
      next r hx => rw [Block.shutExpiry_running due.1 due.2 hx]; rfl
    case isFalse early => rw [Block.shutExpiry_else early]; rfl

end Sys2Proof
end

section
/-! Water, the survey: which chamber is busy, what one chamber and several take, and the order of the notices (01 R6 to R8, 11 R193). -/
namespace Sys2Proof
open Machine

/-! ### What a survey reads (O30) -/

/-- A chamber is busy in TRANSFER or with a sluice of its own not SHUT (01 R7). -/
theorem Block.surveyBusy_iff {b : Block} {c : Fin 4} :
    b.surveyBusy c = true ↔
      (b.chamber c).state = .transfer ∨ ∃ k : Fin 5, (k.val = c.val ∨ k.val = c.val + 1) ∧ (b.sec k).sluice ≠ .shut := by
  simp [Block.surveyBusy, mem_gatesOf]

/-- An adjoining gate that is not CLOSED is not level (01 R8). -/
theorem Block.gateDisagrees_iff {b : Block} {c : Fin 4} :
    b.gateDisagrees c = true ↔ ∃ k ∈ gatesOf c, (b.sec k).gate ≠ .closed ∧ b.gateLevel k = false := by
  simp [Block.gateDisagrees]

theorem Block.mem_chambersIn {b : Block} {c : Fin 4} : c ∈ b.chambersIn ↔ c.val < b.n.val := by
  have hc : c ∈ chambersAll := by revert c; decide
  simp [Block.chambersIn, hc]

theorem Block.chambersIn_pairwise (b : Block) : b.chambersIn.Pairwise (· < ·) :=
  List.Pairwise.filter _ (by decide : chambersAll.Pairwise (· < ·))

section SurveyState
variable {b : Block} {c : Fin 4}

theorem Block.surveyState_low (h : b.depth c = some .low) : b.surveyState c = .empty := by simp only [Block.surveyState, h]
theorem Block.surveyState_high (h : b.depth c = some .high) : b.surveyState c = .full := by simp only [Block.surveyState, h]

/-- MID, INVALID and no reading are UNKNOWN (01 R8). -/
theorem Block.surveyState_else (hl : b.depth c ≠ some .low) (hh : b.depth c ≠ some .high) : b.surveyState c = .unknown := by
  rw [Block.surveyState]
  split
  · exact absurd (by assumption) hl
  · exact absurd (by assumption) hh
  · rfl

theorem Block.surveyState_invalid (h : b.depth c = some .invalid) : b.surveyState c = .unknown :=
  Block.surveyState_else (by simp [h]) (by simp [h])

end SurveyState

/-- The state of a survey's first step, from the floats (01 R6, R8). -/
theorem Block.surveyState_eq (b : Block) (c : Fin 4) :
    b.surveyState c =
      if b.reading (.lowFloat c) = some true ∧ b.reading (.highFloat c) = some false then .empty
      else if b.reading (.lowFloat c) = some false ∧ b.reading (.highFloat c) = some true then .full
      else .unknown := by
  simp only [← Block.depth_eq_low, ← Block.depth_eq_high]
  split_ifs with hl hh
  · exact Block.surveyState_low hl
  · exact Block.surveyState_high hh
  · exact Block.surveyState_else hl hh

/-! ### The chambers and the notices of a survey -/

@[simp] theorem Block.tellLevelFaults_chamber (b : Block) (cs : List (Fin 4)) (c : Fin 4) :
    (b.tellLevelFaults cs).chamber c = b.chamber c := by
  simp only [Block.chamber, (b.tellLevelFaults_keeps cs).chambers]

/-- What notices are recorded depends on the notice settings and entries alone. -/
theorem Block.tellLevelFaults_notices_congr {a b : Block} (h : a.notices = b.notices) (cs : List (Fin 4)) :
    (a.tellLevelFaults cs).notices = (b.tellLevelFaults cs).notices := by
  induction cs generalizing a b with
  | nil => exact h
  | cons c cs ih => exact ih (by simp only [Block.raise, h])

/-- What a survey leaves of each chamber: the state of its depth reading, UNKNOWN where the check rejects it (01 R8). -/
theorem Block.surveyed_chamber (b : Block) (cs : List (Fin 4)) (c : Fin 4) :
    (b.surveyed cs).chamber c =
      if c ∈ cs then
        { b.chamber c with state := if b.surveyRejects (b.surveyStates cs) c then .unknown else b.surveyState c }
      else b.chamber c := by
  simp only [Block.surveyed, Block.tellLevelFaults_chamber, Block.makeUnknown_chamber, Block.surveyStates_chamber, List.mem_filter]
  by_cases hc : c ∈ cs
  · by_cases hr : b.surveyRejects (b.surveyStates cs) c = true <;> simp [hc, hr]
  · simp [hc]

/-- The notices of a survey: those of the INVALID depths, then those of the check (11 R193). -/
theorem Block.surveyed_notices (b : Block) (cs : List (Fin 4)) :
    (b.surveyed cs).notices =
      ((b.tellLevelFaults (cs.filter fun c => b.depth c == some .invalid && b.surveyChanges c)).tellLevelFaults
        ((cs.filter (b.surveyRejects (b.surveyStates cs))).filter b.surveyChanges)).notices := by
  refine Block.tellLevelFaults_notices_congr ?_ _
  rw [(Block.makeUnknown_keeps ..).notices]
  exact Block.tellLevelFaults_notices_congr (b.surveyStates_keeps cs).notices _

/-- The states of the first step, all at once. -/
theorem Block.surveyStates_eq (b : Block) (cs : List (Fin 4)) :
    b.surveyStates cs =
      { b with chambers := Vector.ofFn fun c => if c ∈ cs then { b.chamber c with state := b.surveyState c } else b.chamber c } :=
  (b.surveyStates_keeps cs).eq_ofFn_chambers (b.surveyStates_chamber cs)

/-- A survey of one chamber: its state, and LEVEL_FAULT where an INVALID depth or the check changes it to UNKNOWN (01 R8, log 8). -/
theorem Block.surveyed_one (b : Block) (c : Fin 4) :
    b.surveyed [c] =
      (let rejected := b.surveyRejects (b.setChamberState c (b.surveyState c)) c
       let b2 := b.setChamberState c (if rejected then .unknown else b.surveyState c)
       if (b.depth c = some .invalid ∨ rejected = true) ∧ (b.chamber c).state ≠ .unknown then b2.raise (.levelFault c) else b2) := by
  have once : b.surveyStates [c] = b.setChamberState c (b.surveyState c) := rfl
  have again (st : ChamberState) : (b.setChamberState c st).setChamberState c .unknown = b.setChamberState c .unknown := by
    simp [Block.setChamberState]
  simp only [Block.surveyed, once]
  by_cases hr : b.surveyRejects (b.setChamberState c (b.surveyState c)) c = true
  · have known : b.surveyState c ≠ .unknown := by
      simp only [Block.surveyRejects, Bool.and_eq_true, bne_iff_ne] at hr
      exact hr.1
    have valid : b.depth c ≠ some .invalid := fun h => known (Block.surveyState_invalid h)
    by_cases hch : (b.chamber c).state = .unknown <;>
      simp [Block.tellLevelFaults, Block.makeUnknown, Block.surveyChanges, List.filter_cons, again, hr, valid, hch]
  · by_cases hi : b.depth c = some .invalid <;> by_cases hch : (b.chamber c).state = .unknown <;>
      simp [Block.tellLevelFaults, Block.makeUnknown, Block.surveyChanges, hr, hi, hch]

/-! ### The rows -/

/-- A survey that is not refused, over the wire or as a row (01 R7). -/
theorem serves_survey (s : State) (lk : Link) (code tag : Byte) (payload : List Byte) (cs : List (Fin 4)) :
    s.serves lk code tag payload (s.survey cs) =
      if ∃ c ∈ cs, s.surveyBusy c = true then s.answers lk code tag .inProgress .none s.toBlock
      else
        s.answers lk code tag .done (.chamberStates (cs.map fun c => (c, ((s.surveyed cs).chamber c).state))) (s.surveyed cs) := by
  rw [Block.survey]
  simp only [List.any_eq_true]
  split <;> rfl

theorem Block.chamberArg_eq_some {b : Block} {x : Byte} {c : Fin 4} : b.chamberArg x = some c ↔ c.val < b.n.val ∧ x.toNat = c.val + 1 := by
  simp only [Block.chamberArg, Option.dite_none_right_eq_some, Option.some.injEq, Fin.ext_iff]
  constructor
  · rintro ⟨hx, hc⟩; omega
  · rintro ⟨hn, hx⟩; exact ⟨by omega, by omega⟩

/-- Chamber 0 and a chamber above N name nothing. -/
theorem Block.chamberArg_eq_none {b : Block} {x : Byte} (h : x = 0 ∨ b.n.val < x.toNat) : b.chamberArg x = none := by
  refine dif_neg fun hx => ?_
  rcases h with rfl | h
  · exact absurd hx.1 (by decide)
  · omega

/-- Settles O30: the survey of one chamber by its equation, that of several by what it leaves of each chamber and of the notices. -/
theorem survey : Obligations.Survey := by
  refine ⟨fun b c => ?_, fun s lk tag cByte hs => ?_, fun b c => ?_, fun b b1 cs hb1 => ?_⟩
  · refine ⟨Block.surveyBusy_iff, fun k => mem_gatesOf, Block.mem_chambersIn, b.chambersIn_pairwise, ?_, rfl, Block.surveyState_low,
      Block.surveyState_high, Block.surveyState_else⟩
    simp only [Block.gateDisagrees_iff, mem_gatesOf]
  · refine ⟨fun h => ?_, fun c hc hx => ?_, ?_⟩
    · rw [exec_house hs rfl]
      simp only [Instr.own, ownSurvey, Block.chamberArg_eq_none h]
      rfl
    · rw [exec_house hs rfl]
      simp only [Instr.own, ownSurvey, Block.chamberArg_eq_some.2 ⟨hc, hx⟩]
      exact serves_survey ..
    · rw [exec_house hs rfl]
      exact serves_survey ..
  · intro low high first b1 disagrees last faulty b2
    have hfirst : b.surveyState c = first := b.surveyState_eq c
    have hb1 : b.setChamberState c (b.surveyState c) = b1 := by rw [hfirst]; rfl
    have hrejected : b.surveyRejects b1 c = true ↔ first ≠ .unknown ∧ disagrees := by
      simp only [Block.surveyRejects, Bool.and_eq_true, bne_iff_ne, Block.gateDisagrees_iff, hfirst]
      rfl
    have hlast : (if b.surveyRejects b1 c then .unknown else b.surveyState c) = last := by
      simp only [hrejected, hfirst, last]
    have hfaulty : (b.depth c = some .invalid ∨ b.surveyRejects b1 c = true) ↔ faulty := or_congr Block.depth_eq_invalid hrejected
    have hunknown : faulty → last = .unknown := by
      rintro (invalid | rejected)
      · have unread : first = .unknown := hfirst.symm.trans (Block.surveyState_invalid (Block.depth_eq_invalid.2 invalid))
        simp only [last, unread, ne_eq, not_true_eq_false, false_and, if_false]
      · exact if_pos rejected
    rw [Block.surveyed_one]
    simp only [hb1, hlast, hfaulty]
    refine if_congr (and_congr_right fun h => ?_) rfl rfl
    rw [hunknown h]
    exact ne_comm
  · intro known rejected told b'
    have hstates : b.surveyStates cs = b1 := (b.surveyStates_eq cs).trans hb1.symm
    have hrejected : b.surveyRejects b1 = rejected := funext fun c => Bool.eq_iff_iff.2 (by simp [Block.surveyRejects, rejected])
    have hknown : b.surveyChanges = known := funext fun c => Bool.eq_iff_iff.2 (by simp [Block.surveyChanges, known])
    refine ⟨fun c hc => ?_, fun c hc => ?_, ?_, (b.surveyed_keeps cs).eq_with_chambers_notices⟩
    · rw [← hrejected, ← hstates]
      exact (b.surveyed_chamber cs c).trans (if_pos hc)
    · exact (b.surveyed_chamber cs c).trans (if_neg hc)
    · refine (b.surveyed_notices cs).trans ?_
      simp only [hstates, hrejected, hknown, List.filter_filter, beq_eq_decide, Bool.and_comm (known _)]
      rfl

end Sys2Proof
end

section
/-! SUPPORT. Rules for the proofs about gates: when a motion runs, which section is an end of the flight, the start and the end of a motion,
the entry of a fault, and the request rows that name a section (02 R22 to R30). -/
namespace Sys2Proof
open Machine

/-! ### Words of the checks -/

/-- "a motion is running while the gate state is OPENING or CLOSING" (02 R22). -/
theorem Section.moving_iff {x : Section} : x.moving = true ↔ x.gate = .opening ∨ x.gate = .closing := by simp [Section.moving]

theorem Section.moving_eq_false {x : Section} (h : x.gate.travel = none) : x.moving = false := by
  cases hg : x.gate <;> simp_all [Section.moving, GateState.travel]

/-- Whether the requester does not hold the section (03 R54). -/
theorem Section.not_heldBy {x : Section} {lk : Link} : (!x.heldBy lk) = true ↔ x.holder ≠ some lk := by simp [Section.heldBy]

/-- Both limits read active, or one has no reading (02 R40, R42; 04 R67). -/
theorem Block.limitsRefuse_iff {b : Block} {k : Fin 5} :
    b.limitsRefuse k = true ↔
      b.reading (.openLimit k) = none ∨ b.reading (.closedLimit k) = none ∨
        (b.reading (.openLimit k) = some true ∧ b.reading (.closedLimit k) = some true) := by
  rw [Block.limitsRefuse]
  rcases b.reading (.openLimit k) with _ | _ | _ <;> rcases b.reading (.closedLimit k) with _ | _ | _ <;> simp

theorem Block.beamRefuses_iff {b : Block} {k : Fin 5} : b.beamRefuses k = true ↔ b.reading (.beam k) ≠ some false := by
  simp [Block.beamRefuses]

/-- A test of the approach of an end section: section 0 is the lower one's, section N the upper one's (02 R27). -/
theorem Block.sideOf_any_iff {b : Block} {k : Fin 5} (hn : 1 ≤ b.n) {p : Side → Bool} :
    (b.sideOf k).any p = true ↔ (k = 0 ∧ p .lower = true) ∨ (k = b.n ∧ p .upper = true) := by
  have apart : (0 : Fin 5) ≠ b.n := fun h => absurd (h ▸ hn) (by decide)
  rw [Block.sideOf]
  by_cases h0 : k = 0
  · subst h0; simp [apart]
  · have hpos : k.val ≠ 0 := fun h => h0 (Fin.ext h)
    by_cases hk : k = b.n
    · subst hk; simp [apart.symm, hpos]
    · simp [h0, hpos, hk]

theorem Block.reachOut_iff {b : Block} {k : Fin 5} (hn : 1 ≤ b.n) :
    b.reachOut k = true ↔
      (k = 0 ∧ b.reading (.band .lower) ≠ some true) ∨ (k = b.n ∧ b.reading (.band .upper) ≠ some true) := by
  simp [Block.reachOut, Block.sideOf_any_iff hn, Block.inBand]

theorem Block.redNotProven_iff {b : Block} {k : Fin 5} (hn : 1 ≤ b.n) :
    b.redNotProven k = true ↔
      (k = 0 ∧ (b.signal .lower).redState ≠ .proven) ∨ (k = b.n ∧ (b.signal .upper).redState ≠ .proven) := by
  simp [Block.redNotProven, Block.sideOf_any_iff hn]

theorem Block.nearSluiceOpen_iff {b : Block} {k : Fin 5} :
    b.nearSluiceOpen k = true ↔
      ∃ j : Fin 5, j ≤ b.n ∧ (j = k ∨ j.val + 1 = k.val ∨ j.val = k.val + 1) ∧ (b.sec j).sluice ≠ .shut := by
  simp [Block.nearSluiceOpen, Block.mem_nearSections, and_assoc]

/-! ### The start and the end of a motion, and a fault (O16) -/

/-- The latch of a motion's direction set, which resets the other gate latch (04 R78). -/
theorem Block.latch_travel (b : Block) (k : Fin 5) (dir : Travel) :
    b.latch k dir.latch latchNone = b.setDrive k { b.drive k with gateOpen := dir == .opens, gateClose := dir == .closes } := by
  cases dir <;> simp [Block.latch, DriveLatches.apply, Travel.latch, latchGateOpen, latchGateClose, latchNone, beq_eq_decide]

/-- Both gate latches reset (02 R30); the paddle latches stand. -/
theorem Block.latch_resetGates (b : Block) (k : Fin 5) :
    b.latch k latchNone latchGates = b.setDrive k { b.drive k with gateOpen := false, gateClose := false } := by
  simp [Block.latch, DriveLatches.apply, latchNone, latchGates]

/-- The end of a motion, record by record (02 R30). -/
theorem Block.endMotion_eq (b : Block) (k : Fin 5) (gate : GateState) (position : Option Nat) :
    b.endMotion k gate position =
      ((b.setDrive k { b.drive k with gateOpen := false, gateClose := false }).setTimer k
          { b.timer k with stroke := (b.timer k).stroke.stop, stall := (b.timer k).stall.stop }).setSec k
        { b.sec k with gate := gate, position := position } := by
  simp only [Block.endMotion, Block.latch_resetGates]

/-- A fault entered at a gate: the record and its notice (02 R24). -/
theorem Block.gateFault_eq (b : Block) (k : Fin 5) (kind : FaultKind) :
    b.gateFault k kind =
      (b.setSec k
        { b.sec k with
          fault :=
            match (b.sec k).fault with
            | some f => some { f with repeated := true }
            | none => some { kind := kind, stamp := b.clock, repeated := false } }).raise (.gateFault k kind) :=
  congrArg (·.raise (.gateFault k kind)) (b.enterFault_eq k kind false)

/-- Settles O16: the start by its direction, the end and the fault by their equations. -/
theorem motionAndFaultEffects : Obligations.MotionAndFaultEffects := by
  refine ⟨fun b k dir => ?_, fun b k gate position => ⟨b.endMotion_eq k gate position, rfl⟩, Block.gateFault_eq⟩
  simp only [Block.startMotion, Block.latch_travel]
  cases dir
  all_goals
    simp only [strokeLoad]
    cases (b.sec k).position <;> rfl

/-! ### The rows that name a section -/

/-- A request of a control house that its owner refuses or answers without a payload (11 R188, R191). -/
theorem exec_house_plain {i : Instr} {s : State} {lk : Link} {code tag : Byte} {payload : List Byte} {o : OutcomeCode} {b : Block}
    (hs : s.house lk) (hi : i.frame = some (lk, tag, code, payload)) (ho : i.own s.toBlock = .plain o b)
    (hc : ¬ (0x46 ≤ code.toNat ∧ code.toNat ≤ 0x48) := by decide) (hc' : code.toNat < 0x70 := by decide) :
    exec i s = s.answers lk code tag o .none b := by
  rw [exec_house hs hi hc hc', ho]; rfl

/-- A section byte names the section of the flight with its number (02 R22). -/
theorem Block.sectionArg_of_le {b : Block} {k : Fin 5} {kByte : Byte} (hk : k ≤ b.n) (h : kByte.toNat = k.val) :
    b.sectionArg kByte = some k := Block.sectionArg_eq_some.2 ⟨h, by omega⟩

/-- The owner of every claim, gate, drive and transfer request, and of READ SECTION, refuses a section above N (02 R22). -/
theorem Instr.own_aboveN {i : Instr} {b : Block} {lk : Link} {tag code k : Byte} {rest : List Byte}
    (hi : i.frame = some (lk, tag, code, k :: rest)) (hc : (0x10 ≤ code.toNat ∧ code.toNat ≤ 0x31) ∨ code = 0x90)
    (hk : b.sectionArg k = none) : i.own b = .plain .badArgument b := by
  cases i <;> simp only [Instr.frame, Option.some.injEq, Prod.mk.injEq, reduceCtorEq] at hi <;> obtain ⟨-, -, rfl, hpayload⟩ := hi
  all_goals first
    | exact absurd hc (by decide)
    | (obtain ⟨rfl, -⟩ := List.cons.inj hpayload
       simp only [Instr.own, ownClaim, ownCancelClaim, ownRelease, ownTakeOver, ownOpenGate, ownCloseGate, ownStopGate, ownClearFault,
         ownSetManual, ownSetAuto, ownDriveGateOpen, ownDriveGateClose, ownDriveGateHalt, ownDriveSluiceCrack, ownDriveSluiceFull,
         ownDriveSluiceShut, Block.driven, ownTransfer, ownAbortTransfer, ownReadSection, hk])

/-- Settles O7: the owner refuses, and its answer leaves the part as it was. -/
theorem sectionAboveNIsBadArgument : Obligations.SectionAboveNIsBadArgument :=
  fun _ _ _ _ _ _ _ hi hc hready hpermitted hk =>
    exec_answered hi hready hpermitted (Instr.own_aboveN hi hc (Block.sectionArg_eq_none.2 hk))

end Sys2Proof
end

section
/-! The gate requests: OPEN GATE, CLOSE GATE, STOP GATE, the control mode and CLEAR FAULT (02 R26 to R29, R33, R40, R41). -/
namespace Sys2Proof
open Machine

/-! ### OPEN GATE and CLOSE GATE (O17, O18) -/

theorem Block.motionCheck_eq (b : Block) (lk : Link) (k : Fin 5) (there : GateState) :
    b.motionCheck lk k there =
      if b.cond.condition ≠ .service then some .wrongCondition
      else if (b.sec k).holder ≠ some lk then some .notHolder
      else if (b.sec k).mode = .manual then some .manualActive
      else if (b.sec k).fault ≠ none then some .faultPending
      else if (b.sec k).gate = .opening ∨ (b.sec k).gate = .closing then some .inProgress
      else if (b.sec k).gate = there then some .already
      else if b.reachOut k then some .reachOut
      else none := by
  simp only [Block.motionCheck, Section.not_heldBy, Option.isSome_iff_ne_none, Section.moving_iff]

section Starts
variable {s : State} {lk : Link} {code tag : Byte} {payload : List Byte}

/-- The checks of R26 in order, and the start of an opening (02 R26, R29; 01 R9; 04 R67). -/
theorem serves_openChecked (k : Fin 5) :
    s.serves lk code tag payload (s.openChecked k) =
      if s.nearSluiceOpen k then s.answers lk code tag .inProgress .none s.toBlock
      else if s.gateLevel k = false then s.answers lk code tag .notLevel .none s.toBlock
      else
        match s.reading (.head k) with
        | some true => s.answers lk code tag .accepted .none (s.startMotion k .opens).refreshSignals
        | some false => s.answers lk code tag .sensorDisagree .none (s.headFault k)
        | none => s.answers lk code tag .sensorDisagree .none s.toBlock := by
  simp only [Block.openChecked, apply_ite (s.serves lk code tag payload), Bool.not_eq_true']
  rcases s.reading (.head k) with _ | _ | _ <;> rfl

/-- The beam check, and the start of a closing (02 R28, R29; 04 R67). -/
theorem serves_closeChecked (k : Fin 5) :
    s.serves lk code tag payload (s.closeChecked k) =
      if s.reading (.beam k) ≠ some false then s.answers lk code tag .lineBlocked .none s.toBlock
      else s.answers lk code tag .accepted .none (s.startMotion k .closes).refreshSignals := by
  simp only [Block.closeChecked, Block.beamRefuses_iff, apply_ite (s.serves lk code tag payload)]
  rfl

/-- A stop asked for (02 R33, R42). -/
theorem serves_haltGate (k : Fin 5) :
    s.serves lk code tag payload (s.haltGate k) =
      if (s.sec k).gate = .opening ∨ (s.sec k).gate = .closing then
        s.answers lk code tag .done .none (s.stopMotion k).refreshSignals
      else s.answers lk code tag .already .none s.toBlock := by
  simp only [Block.haltGate, Section.moving_iff, apply_ite (s.serves lk code tag payload)]
  rfl

end Starts

/-- The row of OPEN GATE: what its checks refuse, else the RED lamp's check and what follows it. -/
theorem exec_openGate {s : State} {lk : Link} {tag kByte : Byte} {k : Fin 5} (hs : s.asks lk kByte k) :
    exec (.openGate lk tag kByte) s =
      (s.motionCheck lk k .opened).elim
        (if s.redNotProven k then s.answers lk 0x20 tag .lampFail .none s.toBlock
         else s.serves lk 0x20 tag [kByte] (s.openChecked k))
        (fun o => s.answers lk 0x20 tag o .none s.toBlock) := by
  rw [exec_house hs.1 rfl]
  simp only [Instr.own, ownOpenGate, hs.2]
  cases s.motionCheck lk k .opened
  · exact apply_ite ..
  · rfl

/-- Settles O17: what the checks read, then the checks one by one. -/
theorem openGate : Obligations.OpenGate := by
  refine ⟨fun b k hn => ⟨Block.reachOut_iff hn, Block.redNotProven_iff hn, Block.nearSluiceOpen_iff⟩, ?_⟩
  intro s lk tag kByte k hs
  rw [exec_openGate hs, Block.motionCheck_eq, serves_openChecked]
  dsimp only
  iterate 7 refine elim_ite_some ?_
  rfl

/-- The row of CLOSE GATE: what its checks refuse, else the beam's check and what follows it. -/
theorem exec_closeGate {s : State} {lk : Link} {tag kByte : Byte} {k : Fin 5} (hs : s.asks lk kByte k) :
    exec (.closeGate lk tag kByte) s =
      (s.motionCheck lk k .closed).elim (s.serves lk 0x21 tag [kByte] (s.closeChecked k))
        (fun o => s.answers lk 0x21 tag o .none s.toBlock) := by
  rw [exec_house hs.1 rfl]
  simp only [Instr.own, ownCloseGate, hs.2]
  cases s.motionCheck lk k .closed <;> rfl

/-- Settles O18: a section above N, then the checks one by one. -/
theorem closeGate : Obligations.CloseGate := by
  intro s lk tag kByte hs hn
  refine ⟨fun h => exec_house_plain hs rfl (Instr.own_aboveN rfl (by decide) (Block.sectionArg_eq_none.2 h)), fun k hk hkByte => ?_⟩
  rw [exec_closeGate ⟨hs, Block.sectionArg_of_le hk hkByte⟩, Block.motionCheck_eq, serves_closeChecked]
  dsimp only
  simp only [Block.reachOut_iff hn]
  iterate 7 refine elim_ite_some ?_
  rfl

/-! ### STOP GATE and the control mode (O19) -/

/-- Settles O19, check by check. -/
theorem stopGateAndControlMode : Obligations.StopGateAndControlMode := by
  refine ⟨fun s lk tag kByte k hs => ?_, fun s lk tag kByte k hs => ⟨?_, ?_⟩⟩
  · rw [exec_house hs.1 rfl]
    simp only [Instr.own, ownStopGate, hs.2, Section.not_heldBy, apply_ite (s.serves lk 0x22 tag [kByte]), serves_haltGate]
    rfl
  · rw [exec_house hs.1 rfl]
    simp only [Instr.own, ownSetManual, hs.2, Section.not_heldBy, Bool.or_eq_true, Section.moving_iff, Option.isSome_iff_ne_none,
      apply_ite (s.serves lk 0x24 tag [kByte])]
    rfl
  · rw [exec_house hs.1 rfl]
    simp only [Instr.own, ownSetAuto, hs.2, Section.not_heldBy, Bool.or_eq_true, Section.moving_iff, bne_iff_ne,
      apply_ite (s.serves lk 0x25 tag [kByte])]
    rfl

/-! ### CLEAR FAULT (O20) -/

/-- Settles O20: the checks one by one, and a section with no record takes the next fault as a new one. -/
theorem clearFault : Obligations.ClearFault := by
  intro s lk tag kByte hs
  refine ⟨fun h => exec_house_plain hs rfl (Instr.own_aboveN rfl (by decide) (Block.sectionArg_eq_none.2 h)), fun k hk hkByte => ⟨?_, ?_⟩⟩
  · rw [exec_house hs rfl]
    simp only [Instr.own, ownClearFault, Block.sectionArg_of_le hk hkByte, Section.not_heldBy, Option.isNone_iff_eq_none,
      Block.limitsRefuse_iff, apply_ite (s.serves lk 0x23 tag [kByte])]
    rfl
  · intro kind
    simp [Block.gateFault_eq, Block.clock]

end Sys2Proof
end

section
/-! The manual drives: their first checks, DRIVE GATE, and DRIVE SLUICE (02 R42 to R44). -/
namespace Sys2Proof
open Machine

/-! ### The first checks of a manual drive -/

section Driven
variable {b : Block} {s : State} {lk : Link} {kByte : Byte} {k : Fin 5} {go : Fin 5 → Answer} {o : OutcomeCode}

/-- What the first checks refuse, in their order (02 R42). -/
theorem Block.driveCheck_refused
    (h : ((b.sec k).holder ≠ some lk ∧ o = .notHolder) ∨ ((b.sec k).holder = some lk ∧ (b.sec k).mode = .auto ∧ o = .notManual) ∨
      ((b.sec k).holder = some lk ∧ (b.sec k).mode = .manual ∧ b.cond.condition = .stopped ∧ o = .wrongCondition)) :
    b.driveCheck lk k = some o := by
  simp only [Block.driveCheck, Section.not_heldBy]
  rcases h with ⟨hholder, rfl⟩ | ⟨hholder, hmode, rfl⟩ | ⟨hholder, hmode, hcond, rfl⟩
  · rw [if_pos hholder]
  · rw [if_neg (not_not_intro hholder), if_pos hmode]
  · rw [if_neg (not_not_intro hholder), if_neg (by simp [hmode]), if_pos hcond]

theorem Block.driveCheck_passed (hholder : (b.sec k).holder = some lk) (hmode : (b.sec k).mode = .manual)
    (hcond : b.cond.condition ≠ .stopped) : b.driveCheck lk k = none := by
  simp only [Block.driveCheck, Section.not_heldBy]
  rw [if_neg (not_not_intro hholder), if_neg (by simp [hmode]), if_neg hcond]

theorem Block.driven_refused (hk : b.sectionArg kByte = some k) (h : b.driveCheck lk k = some o) :
    b.driven lk kByte go = .plain o b := by
  simp only [Block.driven, hk, h]

theorem Block.driven_passed (hk : b.sectionArg kByte = some k) (h : b.driveCheck lk k = none) : b.driven lk kByte go = go k := by
  simp only [Block.driven, hk, h]

/-- The row of a manual drive past its first checks is the drive itself. -/
theorem exec_driven {i : Instr} {code tag : Byte} {payload : List Byte} (hs : s.asks lk kByte k)
    (hi : i.frame = some (lk, tag, code, payload)) (ho : i.own s.toBlock = s.driven lk kByte go) (hcheck : s.driveCheck lk k = none)
    (hc : ¬ (0x46 ≤ code.toNat ∧ code.toNat ≤ 0x48) := by decide) (hc' : code.toNat < 0x70 := by decide) :
    exec i s = s.serves lk code tag payload (go k) := by
  rw [exec_house hs.1 hi hc hc', ho, Block.driven_passed hs.2 hcheck]

end Driven

/-! ### DRIVE GATE (O21) -/

/-- What refuses a manual drive of the gate FAULT_PENDING: a LIMIT_CONFLICT record, or its limits (02 R42, 04 R67). -/
def Block.driveGateBlocked (b : Block) (k : Fin 5) : Prop :=
  (∃ f, (b.sec k).fault = some f ∧ f.kind = .limitConflict) ∨ b.reading (.openLimit k) = none ∨ b.reading (.closedLimit k) = none ∨
    (b.reading (.openLimit k) = some true ∧ b.reading (.closedLimit k) = some true)

theorem Block.driveGateBlocked_iff {b : Block} {k : Fin 5} :
    ((b.sec k).fault.any (fun f => f.kind == .limitConflict) || b.limitsRefuse k) = true ↔ b.driveGateBlocked k := by
  simp [Block.driveGateBlocked, Block.limitsRefuse_iff, Option.any_eq_true]

theorem Block.driveGateCheck_blocked {b : Block} {k : Fin 5} (h : b.driveGateBlocked k) (dir : Travel) :
    b.driveGateCheck k dir = some .faultPending := by
  simp only [Block.driveGateCheck]
  rw [if_pos (Block.driveGateBlocked_iff.2 h)]

/-- The checks of DRIVE GATE past FAULT_PENDING (02 R42). -/
theorem Block.driveGateCheck_free {b : Block} {k : Fin 5} (h : ¬ b.driveGateBlocked k) (dir : Travel) :
    b.driveGateCheck k dir =
      if (b.sec k).gate = dir.target ∨ (b.sec k).gate = dir.motion then some .already
      else if (b.sec k).gate = .opening ∨ (b.sec k).gate = .closing then some .inProgress
      else if b.reachOut k then some .reachOut
      else none := by
  simp only [Block.driveGateCheck, Section.moving_iff]
  rw [if_neg (mt Block.driveGateBlocked_iff.1 h)]

theorem Block.driveGateCheck_opens {b : Block} {k : Fin 5} (h : ¬ b.driveGateBlocked k) :
    b.driveGateCheck k .opens =
      if (b.sec k).gate = .opening ∨ (b.sec k).gate = .opened then some .already
      else if (b.sec k).gate = .closing then some .inProgress
      else if b.reachOut k then some .reachOut
      else none := by
  rw [Block.driveGateCheck_free h]
  cases (b.sec k).gate <;> rfl

theorem Block.driveGateCheck_closes {b : Block} {k : Fin 5} (h : ¬ b.driveGateBlocked k) :
    b.driveGateCheck k .closes =
      if (b.sec k).gate = .closing ∨ (b.sec k).gate = .closed then some .already
      else if (b.sec k).gate = .opening then some .inProgress
      else if b.reachOut k then some .reachOut
      else none := by
  rw [Block.driveGateCheck_free h]
  cases (b.sec k).gate <;> rfl

section DriveGate
variable {s : State} {lk : Link} {kByte : Byte} {k : Fin 5} (tag : Byte) (hs : s.asks lk kByte k) (hcheck : s.driveCheck lk k = none)
include hs hcheck

/-- The row of DRIVE GATE OPEN past its first checks: what the further ones refuse, else what follows them. -/
theorem exec_driveGateOpen :
    exec (.driveGateOpen lk tag kByte) s =
      (s.driveGateCheck k .opens).elim (s.serves lk 0x26 tag [kByte, 0] (s.openChecked k))
        (fun o => s.answers lk 0x26 tag o .none s.toBlock) := by
  rw [exec_driven hs rfl rfl hcheck]
  cases s.driveGateCheck k .opens <;> rfl

/-- The row of DRIVE GATE CLOSE past its first checks: what the further ones refuse, else what follows them. -/
theorem exec_driveGateClose :
    exec (.driveGateClose lk tag kByte) s =
      (s.driveGateCheck k .closes).elim (s.serves lk 0x26 tag [kByte, 1] (s.closeChecked k))
        (fun o => s.answers lk 0x26 tag o .none s.toBlock) := by
  rw [exec_driven hs rfl rfl hcheck]
  cases s.driveGateCheck k .closes <;> rfl

/-- The row of DRIVE GATE HALT past its first checks. -/
theorem exec_driveGateHalt :
    exec (.driveGateHalt lk tag kByte) s = s.serves lk 0x26 tag [kByte, 2] (s.haltGate k) :=
  exec_driven hs rfl rfl hcheck

end DriveGate

/-- Settles O21: the first checks for all six rows, then each drive of the gate by its state. -/
theorem driveGate : Obligations.DriveGate := by
  refine ⟨fun s lk tag kByte k hs o ho => ?_, fun s lk tag kByte k hs hholder hmode hcond => ?_⟩
  · have refused (go : Fin 5 → Answer) : s.driven lk kByte go = .plain o s.toBlock :=
      Block.driven_refused hs.2 (Block.driveCheck_refused ho)
    exact ⟨exec_house_plain hs.1 rfl (refused _), exec_house_plain hs.1 rfl (refused _), exec_house_plain hs.1 rfl (refused _),
      exec_house_plain hs.1 rfl (refused _), exec_house_plain hs.1 rfl (refused _), exec_house_plain hs.1 rfl (refused _)⟩
  · have hcheck := Block.driveCheck_passed hholder hmode hcond
    intro x answer blocked
    refine ⟨fun h => ⟨?_, ?_⟩, fun h => ⟨?_, ?_⟩, ?_⟩
    · rw [exec_driveGateOpen tag hs hcheck, Block.driveGateCheck_blocked h]; rfl
    · rw [exec_driveGateClose tag hs hcheck, Block.driveGateCheck_blocked h]; rfl
    · rw [exec_driveGateOpen tag hs hcheck, Block.driveGateCheck_opens h, serves_openChecked]
      iterate 3 refine elim_ite_some ?_
      rfl
    · rw [exec_driveGateClose tag hs hcheck, Block.driveGateCheck_closes h, serves_closeChecked]
      iterate 3 refine elim_ite_some ?_
      rfl
    · rw [exec_driveGateHalt tag hs hcheck, serves_haltGate]

/-! ### DRIVE SLUICE (O22) -/

/-- Both paddle latches set (04 R79). -/
theorem Block.latch_setPaddles (b : Block) (k : Fin 5) :
    b.latch k latchPaddles latchNone = b.setDrive k { b.drive k with paddleCrack := true, paddleFull := true } := by
  simp [Block.latch, DriveLatches.apply, latchNone, latchPaddles]

/-- The chambers beside a sluice become UNKNOWN, and nothing else changes (01 R10). -/
theorem Block.unknownBeside_eq (b : Block) (k : Fin 5) :
    b.unknownBeside k =
      { b with chambers := Vector.ofFn fun c => if c ∈ b.beside k then { b.chamber c with state := .unknown } else b.chamber c } :=
  (b.unknownBeside_keeps k).eq_ofFn_chambers (b.makeUnknown_chamber (b.beside k))

/-- What keeps a sluice from being drawn by hand: a gate near it, or a chamber beside it in TRANSFER (02 R43). -/
def Block.closedToDrawing (b : Block) (k : Fin 5) : Prop :=
  b.nearGateOpen k = true ∨ ∃ c ∈ b.beside k, (b.chamber c).state = .transfer

section DriveSluice
variable {b : Block} {s : State} {lk : Link} {kByte : Byte} {k : Fin 5}

theorem Block.driveSluiceCheck_fault (h : (b.sec k).sluice = .fault) : b.driveSluiceCheck k = some .faultPending := by
  simp only [Block.driveSluiceCheck, h]

/-- The sluices that can be drawn: neither in FAULT nor SHUTTING (02 R43). -/
theorem Block.driveSluiceCheck_still (hf : (b.sec k).sluice ≠ .fault) (hs : (b.sec k).sluice ≠ .shutting) :
    b.driveSluiceCheck k =
      if b.nearGateOpen k then some .inProgress
      else if ∃ c ∈ b.beside k, (b.chamber c).state = .transfer then some .inProgress
      else none := by
  have chambers : (b.beside k).any (fun c => (b.chamber c).state == .transfer) = true ↔
      ∃ c ∈ b.beside k, (b.chamber c).state = .transfer := by simp
  rw [Block.driveSluiceCheck]
  simp only [chambers]

theorem Block.driveSluiceCheck_busy
    (h : (b.sec k).sluice = .shutting ∨ ((b.sec k).sluice ≠ .fault ∧ b.closedToDrawing k)) :
    b.driveSluiceCheck k = some .inProgress := by
  by_cases hs : (b.sec k).sluice = .shutting
  · simp only [Block.driveSluiceCheck, hs]
  obtain ⟨hf, hclosed⟩ := h.resolve_left hs
  rw [Block.driveSluiceCheck_still hf hs]
  by_cases hgate : b.nearGateOpen k = true
  · rw [if_pos hgate]
  · rw [if_neg hgate, if_pos (hclosed.resolve_left hgate)]

theorem Block.driveSluiceCheck_free (hf : (b.sec k).sluice ≠ .fault) (hs : (b.sec k).sluice ≠ .shutting)
    (h : ¬ b.closedToDrawing k) : b.driveSluiceCheck k = none := by
  rw [Block.driveSluiceCheck_still hf hs, if_neg fun hgate => h (.inl hgate), if_neg fun hc => h (.inr hc)]

variable (tag : Byte) (hs : s.asks lk kByte k) (hcheck : s.driveCheck lk k = none)
include hs hcheck

/-- CRACK and FULL that their checks refuse. -/
theorem exec_driveSluice_refused {o : OutcomeCode} (h : s.driveSluiceCheck k = some o) :
    exec (.driveSluiceCrack lk tag kByte) s = s.answers lk 0x27 tag o .none s.toBlock ∧
    exec (.driveSluiceFull lk tag kByte) s = s.answers lk 0x27 tag o .none s.toBlock := by
  constructor
  all_goals
    rw [exec_driven hs rfl rfl hcheck]
    simp only [h]
    rfl

/-- CRACK that its checks let pass (02 R43). -/
theorem exec_driveSluiceCrack (h : s.driveSluiceCheck k = none) :
    exec (.driveSluiceCrack lk tag kByte) s =
      if (s.sec k).sluice = .shut then
        s.answers lk 0x27 tag .done .none
          (((s.setDrive k { s.drive k with paddleCrack := true }).setSluice k .cracked).unknownBeside k)
      else s.answers lk 0x27 tag .already .none s.toBlock := by
  rw [exec_driven hs rfl rfl hcheck]
  simp only [h, Block.latch_setCrack, apply_ite (s.serves lk 0x27 tag [kByte, 0])]
  rfl

/-- FULL that its checks let pass, by the state it finds (02 R43). -/
theorem exec_driveSluiceFull (h : s.driveSluiceCheck k = none) :
    exec (.driveSluiceFull lk tag kByte) s =
      if (s.sec k).sluice = .shut then
        s.answers lk 0x27 tag .done .none
          (((s.setDrive k { s.drive k with paddleCrack := true, paddleFull := true }).setSluice k .opened).unknownBeside k)
      else if (s.sec k).sluice = .cracked then
        s.answers lk 0x27 tag .done .none ((s.setDrive k { s.drive k with paddleFull := true }).setSluice k .opened)
      else s.answers lk 0x27 tag .already .none s.toBlock := by
  rw [exec_driven hs rfl rfl hcheck]
  simp only [h, Block.latch_setPaddles, Block.latch_setFull]
  cases (s.sec k).sluice <;> rfl

/-- SHUT in every state it finds (02 R43, R44). -/
theorem exec_driveSluiceShut :
    exec (.driveSluiceShut lk tag kByte) s =
      if (s.sec k).sluice = .cracked ∨ (s.sec k).sluice = .opened then s.answers lk 0x27 tag .done .none (s.shutSluice k)
      else s.answers lk 0x27 tag .already .none s.toBlock := by
  rw [exec_driven hs rfl rfl hcheck]
  cases (s.sec k).sluice <;> rfl

end DriveSluice

/-- Settles O22: what the check reads and what UNKNOWN is, then each drive in every state of the sluice. -/
theorem driveSluice : Obligations.DriveSluice := by
  refine ⟨fun b k => ⟨Block.nearGateOpen_iff, b.unknownBeside_eq k, fun _ c => Block.mem_beside⟩, ?_⟩
  intro s lk tag kByte k hs hholder hmode hcond x d t limit done drawn answer closedToIt
  have hcheck := Block.driveCheck_passed hholder hmode hcond
  refine ⟨⟨fun hx => exec_driveSluice_refused tag hs hcheck (Block.driveSluiceCheck_fault hx),
    fun hx => exec_driveSluice_refused tag hs hcheck (Block.driveSluiceCheck_busy hx)⟩, fun hfree => ?_, fun hx => ?_, fun hx => ?_⟩
  · have passed {st : SluiceState} (hx : x.sluice = st) (hst : st ≠ .fault ∧ st ≠ .shutting) : s.driveSluiceCheck k = none :=
      Block.driveSluiceCheck_free (hx ▸ hst.1) (hx ▸ hst.2) hfree
    refine ⟨fun hx => ?_, fun hx => ?_, fun hx => ?_, fun hx => ?_, fun hx => ?_⟩
    · rw [exec_driveSluiceCrack tag hs hcheck (passed hx (by decide)), if_pos hx]; rfl
    · have unshut : x.sluice ≠ .shut := by rcases hx with hx | hx <;> simp [hx]
      rw [exec_driveSluiceCrack tag hs hcheck (hx.elim (passed · (by decide)) (passed · (by decide))), if_neg unshut]
    · rw [exec_driveSluiceFull tag hs hcheck (passed hx (by decide)), if_pos hx]; rfl
    · rw [exec_driveSluiceFull tag hs hcheck (passed hx (by decide)), if_neg (by simp [show (s.sec k).sluice = _ from hx]), if_pos hx]; rfl
    · rw [exec_driveSluiceFull tag hs hcheck (passed hx (by decide)), if_neg (by simp [show (s.sec k).sluice = _ from hx]),
        if_neg (by simp [show (s.sec k).sluice = _ from hx])]
  · rw [exec_driveSluiceShut tag hs hcheck, if_pos hx]
    simp only [Block.shutSluice, Block.latch_resetPaddles]
    rfl
  · have undrawn : ¬ (x.sluice = .cracked ∨ x.sluice = .opened) := by rcases hx with hx | hx | hx <;> simp [hx]
    rw [exec_driveSluiceShut tag hs hcheck, if_neg undrawn]

end Sys2Proof
end

section
/-! Field events at a gate: the encoder pulse, the beam, the head sensor, ZERO and STALL_EXPIRY (02 R23, R32, R34, R36, R37; 04 R68 to R72). -/
namespace Sys2Proof
open Machine

/-! ### A motion that ends with a fault -/

/-- A motion ended by a fault: the gate STOPPED, the fault entered, the signals brought up to it (02 R32, R34). -/
def Block.faultStop (b : Block) (k : Fin 5) (kind : FaultKind) : Block := ((b.stopMotion k).gateFault k kind).refreshSignals

theorem Block.refreshSignals_sec (b : Block) (k : Fin 5) : b.refreshSignals.sec k = b.sec k :=
  congrArg (·[k]) b.refreshSignals_keeps.sections

theorem Block.refreshSignals_timer (b : Block) (k : Fin 5) : b.refreshSignals.timer k = b.timer k :=
  congrArg (·[k]) b.refreshSignals_keeps.timers

section FaultStop
variable (b : Block) (k : Fin 5) (kind : FaultKind)

theorem Block.faultStop_gate : ((b.faultStop k kind).sec k).gate = .stopped := by
  simp [Block.faultStop, Block.refreshSignals_sec, Block.gateFault_eq, Block.stopMotion, Block.endMotion_eq]

/-- The stroke and stall channels of a motion that has ended are IDLE (02 R30). -/
theorem Block.faultStop_timer :
    (b.faultStop k kind).timer k = { b.timer k with stroke := (b.timer k).stroke.stop, stall := (b.timer k).stall.stop } := by
  simp [Block.faultStop, Block.refreshSignals_timer, Block.gateFault_eq, Block.stopMotion, Block.endMotion_eq]

theorem Block.zeroEvent_eq :
    b.zeroEvent k =
      if (b.sec k).mode = .auto ∧ (b.sec k).moving = true ∧ (b.timer k).stroke.state = .ended then b.faultStop k .overtravel else b := rfl

theorem Block.stallEvent_eq :
    b.stallEvent k = if (b.sec k).moving = true ∧ (b.timer k).stall.state = .ended then b.faultStop k .stall else b := rfl

/-- What a pulse finds once a ZERO or an EXPIRY of its section that stands has been taken (04 R72, log 2). -/
def Block.endedFirst : Block :=
  if (b.sec k).mode = .auto ∧ (b.sec k).moving = true ∧ (b.timer k).stroke.state = .ended then b.faultStop k .overtravel
  else if (b.sec k).moving = true ∧ (b.timer k).stall.state = .ended then b.faultStop k .stall
  else b

/-- A ZERO that is taken ends the motion, so that no EXPIRY stands after it. -/
theorem Block.stallEvent_zeroEvent : (b.zeroEvent k).stallEvent k = b.endedFirst k := by
  rw [Block.zeroEvent_eq, Block.endedFirst]
  split
  case isTrue =>
    have still : ((b.faultStop k .overtravel).sec k).moving = false :=
      Section.moving_eq_false (by rw [Block.faultStop_gate]; rfl)
    rw [Block.stallEvent_eq, if_neg (by simp [still])]
  case isFalse => exact b.stallEvent_eq k

theorem Block.endedFirst_config : (b.endedFirst k).config = b.config := by
  rw [← Block.stallEvent_zeroEvent]
  exact ((b.zeroEvent_keeps k).trans ((b.zeroEvent k).stallEvent_keeps k)).config

/-- Where a ZERO or an EXPIRY was taken, the channels are IDLE, so that the pulse moves the position alone (04 R72). -/
theorem Block.endedFirst_idle (h : b.endedFirst k ≠ b) :
    ((b.endedFirst k).timer k).stroke.state = .idle ∧ ((b.endedFirst k).timer k).stall.state = .idle := by
  revert h
  rw [Block.endedFirst]
  split_ifs
  · rw [Block.faultStop_timer]; exact fun _ => ⟨rfl, rfl⟩
  · rw [Block.faultStop_timer]; exact fun _ => ⟨rfl, rfl⟩
  · exact fun h => absurd rfl h

end FaultStop

/-! ### O23 -/

/-- What a pulse counts, written out (02 R23; 04 R71, R72). -/
theorem Block.pulseCounted_eq (b : Block) (k : Fin 5) :
    b.pulseCounted k =
      (let x := b.sec k
       let t := b.timer k
       (b.setSec k
          { x with
            position :=
              match x.position, x.travel with
              | none, _ => none
              | some p, .opens => some (min (p + 1) (b.config.sections[k]).stroke)
              | some p, .closes => some (p - 1) }).setTimer k
         { t with
           stroke :=
             if t.stroke.state = .running then
               (if t.stroke.count ≤ 1 then { t.stroke with state := .ended, count := 0 } else { t.stroke with count := t.stroke.count - 1 })
             else t.stroke,
           stall := if t.stall.state = .running then { t.stall with count := t.stall.reload } else t.stall }) := by
  rw [Block.pulseCounted]
  cases hp : (b.sec k).position <;> cases ht : (b.sec k).travel <;> simp only [hp, ht] <;> rfl

theorem exec_encoderPulse (s : State) (k : Fin 5) : exec (.encoderPulse k) s = s.becomes (s.pulse k) := rfl

/-- Settles O23: the pulse by what it finds first, then the beam, the head sensor and the two events. -/
theorem pulseBeamHeadZeroStall : Obligations.PulseBeamHeadZeroStall := by
  refine ⟨fun s k => ⟨fun hk => ?_, fun hk => ?_⟩, fun b k => ⟨?_, ?_, ?_⟩, fun s k => ⟨?_, ?_⟩⟩
  · rw [exec_encoderPulse, Block.pulse, if_neg (not_le.2 hk)]; rfl
  · refine ⟨?_, Section.moving_iff.symm, s.endedFirst_idle k⟩
    rw [exec_encoderPulse, Block.pulse, if_pos hk, Block.stallEvent_zeroEvent, Block.pulseCounted_eq]
    simp only [Block.endedFirst_config]
    rfl
  · simp only [Block.beamEffect, true_and]
  · simp only [Block.beamEffect, Bool.false_eq_true, false_and, if_false]
  · rfl
  · exact apply_ite s.becomes ..
  · exact apply_ite s.becomes ..

end Sys2Proof
end

section
/-! The arrivals of the field inputs, and what a limit arrival does during a motion and at rest (02 R31, R35, R39, R46; 04 R65, R66). -/
namespace Sys2Proof
open Machine

/-! ### The arrival rows (O24) -/

/-- The input whose arrival a row takes. -/
def Instr.arrivalInput (i : Instr) : Option Input :=
  match i with
  | .limitArrival k which => some (which.input k)
  | .beamArrival k => some (.beam k)
  | .headSensorArrival k => some (.head k)
  | .paddleShutArrival k => some (.paddle k)
  | .floatArrival c which => some (which.input c)
  | .bandArrival side => some (.band side)
  | .lampProvingArrival side lamp => some (lamp.proving side)
  | .estopArrival => some .estop
  | _ => none

/-- An arrival row is the taking of its input's arrival. -/
theorem exec_arrival {i : Instr} {input : Input} (h : i.arrivalInput = some input) (s : State) :
    exec i s = s.becomes (s.arrival input) := by
  cases i <;> simp only [Instr.arrivalInput, Option.some.injEq, reduceCtorEq] at h <;> subst h <;> rfl

section Arrival
variable {b : Block} {input : Input}

/-- Without an arrival made, nothing (log 1). -/
theorem Block.arrival_none (h : (b.qual input).raised = none) : b.arrival input = b := by simp only [Block.arrival, h]

/-- The reading takes the value, and the blocks of the flight are offered it (04 R65, R66). -/
theorem Block.arrival_some {v : Bool} (h : (b.qual input).raised = some v) :
    b.arrival input =
      (let taken := b.setQual input { b.qual input with state := some v, raised := none }
       if b.offered input then taken.arrivalEffect input (b.qual input).state v else taken) := by
  simp only [Block.arrival, h]

end Arrival

/-! ### Limit arrivals -/

section Limits
variable {b : Block} {k : Fin 5} {which : LimitSwitch} {before : Option Bool} {active o c : Bool} {dir : Travel}

theorem Block.limitInMotion_eq :
    b.limitInMotion k dir which before active =
      if active = true ∧ which ≠ dir.limit then b.limitConflict k
      else if active = true ∨ (before = none ∧ b.reading (dir.limit.input k) = some true) then
        (b.gateAt k dir).raise (.gateDone k (dir == .opens))
      else b := by
  simp only [Block.limitInMotion, Bool.and_eq_true, Bool.or_eq_true, bne_iff_ne, beq_iff_eq, Option.isNone_iff_eq_none]

/-- The first reading that leaves both limits read, the gate at rest: R46's table. -/
theorem Block.limitsFirstRead_eq :
    b.limitsFirstRead k o c =
      if o = true ∧ c = true then (b.endMotion k .stopped none).gateFault k .limitConflict
      else if o = false ∧ c = false then b.endMotion k .stopped none
      else if o then b.gateAt k .opens
      else b.gateAt k .closes := by
  cases o <;> cases c <;> rfl

/-- A later arrival at rest: a conflict, the settling of a STOPPED gate, or drift (02 R39). -/
theorem Block.limitAtRest_eq :
    b.limitAtRest k o c =
      if o = true ∧ c = true then b.limitConflict k
      else if (b.sec k).gate = .stopped then
        if o = false ∧ c = false then b else if o then b.gateAt k .opens else b.gateAt k .closes
      else if o = false ∧ c = false then (b.endMotion k .stopped none).gateFault k .drift
      else b := by
  unfold Block.limitAtRest
  generalize (b.sec k).gate = gate
  cases o <;> cases c <;> cases gate <;> rfl

/-! #### With one limit unread -/

section Unpaired
variable (unread : b.reading (.openLimit k) = none ∨ b.reading (.closedLimit k) = none)
include unread

theorem Block.limitEffect_unpaired_rest (ht : (b.sec k).gate.travel = none) : b.limitEffect k which before active = b := by
  simp only [Block.limitEffect, ht]
  rcases unread with h | h <;> rw [h]
  rcases b.reading (.openLimit k) with _ | _ | _ <;> rfl

/-- During a motion, a first reading changes nothing (02 R46). -/
theorem Block.limitEffect_unpaired_moving (ht : (b.sec k).gate.travel = some dir) :
    b.limitEffect k which before active =
      if before = none then b else (b.limitInMotion k dir which before active).refreshSignals := by
  simp only [Block.limitEffect, ht, Option.isNone_iff_eq_none]
  rcases unread with h | h <;> rw [h]
  rcases b.reading (.openLimit k) with _ | _ | _ <;> rfl

/-- A later arrival during a motion: nothing where it goes inactive, success or conflict by which limit it is (02 R31, R35; log 11). -/
theorem Block.limitEffect_unpaired_active (ht : (b.sec k).gate.travel = some dir) :
    b.limitEffect k which before active =
      if before = none then b
      else
        (if active = false then b
         else if which = dir.limit then (b.gateAt k dir).raise (.gateDone k (dir == .opens))
         else b.limitConflict k).refreshSignals := by
  rw [Block.limitEffect_unpaired_moving unread ht, Block.limitInMotion_eq]
  by_cases hbefore : before = none
  · rw [if_pos hbefore, if_pos hbefore]
  · cases active <;> by_cases hwhich : which = dir.limit <;> simp [hbefore, hwhich]

end Unpaired

/-! #### With both limits read -/

section Paired
variable (ho : b.reading (.openLimit k) = some o) (hc : b.reading (.closedLimit k) = some c)
include ho hc

theorem Block.limitEffect_paired_moving (ht : (b.sec k).gate.travel = some dir) :
    b.limitEffect k which before active =
      (if o = true ∧ c = true then b.limitConflict k else b.limitInMotion k dir which before active).refreshSignals := by
  cases o <;> cases c <;> simp [Block.limitEffect, ho, hc, ht]

theorem Block.limitEffect_paired_rest (ht : (b.sec k).gate.travel = none) :
    b.limitEffect k which before active =
      (if before = none then b.limitsFirstRead k o c else b.limitAtRest k o c).refreshSignals := by
  cases o <;> cases c <;> simp [Block.limitEffect, ho, hc, ht]

/-- During a motion: a conflict where both limits are active or the opposite one arrives active, else the success (02 R31, R35; log 35). -/
theorem Block.limitEffect_paired_judged (ht : (b.sec k).gate.travel = some dir) {target opposite : LimitSwitch} {reached : Bool}
    (htarget : dir.limit = target) (hopposite : which ≠ target ↔ which = opposite) (hreached : b.reading (target.input k) = some reached) :
    b.limitEffect k which before active =
      (if (o = true ∧ c = true) ∨ (which = opposite ∧ active = true) then b.limitConflict k
       else if active = true ∨ (before = none ∧ reached = true) then (b.gateAt k dir).raise (.gateDone k (dir == .opens))
       else b).refreshSignals := by
  rw [Block.limitEffect_paired_moving ho hc ht, Block.limitInMotion_eq]
  simp only [htarget, hopposite, hreached, Option.some.injEq, and_comm (a := active = true), ite_or]

end Paired
end Limits

/-- Settles O24: the rows, what each input's arrival is and where it is offered, then the limit arrivals by the gate's state. -/
theorem arrivalRows : Obligations.ArrivalRows := by
  refine ⟨fun s i input hrow => ?_, fun b before v => ?_, fun b => ⟨?_, ?_, ?_⟩, fun b k which before active unread => ?_,
    fun b k which before active o c ho hc _ => ?_⟩
  · have hinput : i.arrivalInput = some input := by
      rcases hrow with ⟨k, h | h | h | h | h⟩ | ⟨c, h | h⟩ | ⟨side, h | h | h⟩ | h <;> obtain ⟨rfl, rfl⟩ := h <;> rfl
    have row := exec_arrival hinput s
    refine ⟨fun hnone => by rw [row, Block.arrival_none hnone]; rfl, fun v hv => ⟨fun hout => ?_, fun hin => ?_, ?_⟩⟩
    · rw [row, Block.arrival_some hv]; simp only [hout, Bool.false_eq_true, if_false]
    · rw [row, Block.arrival_some hv]; simp only [hin, if_true]
    · rintro c w rfl
      obtain rfl : w.input c = input := Option.some.inj hinput
      rw [row, Block.arrival_some hv]
      cases w <;> exact congrArg s.becomes (ite_self _)
  · exact ⟨fun k => ⟨rfl, rfl, rfl, rfl, rfl⟩, fun c => ⟨rfl, rfl⟩, fun side => ⟨rfl, rfl, rfl⟩, rfl⟩
  · simp [Block.offered]
  · simp [Block.offered]
  · simp [Block.offered]
  · intro ends
    cases hgate : (b.sec k).gate
    case opening => exact Block.limitEffect_unpaired_active (dir := .opens) unread (by rw [hgate]; rfl)
    case closing => exact Block.limitEffect_unpaired_active (dir := .closes) unread (by rw [hgate]; rfl)
    all_goals
      rw [Block.limitEffect_unpaired_rest unread (by rw [hgate]; rfl)]
      exact (ite_self b).symm
  · intro opened closed adrift conflict both neither
    cases hgate : (b.sec k).gate
    case opening =>
      exact Block.limitEffect_paired_judged (dir := .opens) (opposite := .closedLimit) ho hc (by rw [hgate]; rfl) rfl
        (by cases which <;> decide) ho
    case closing =>
      exact Block.limitEffect_paired_judged (dir := .closes) (opposite := .openLimit) ho hc (by rw [hgate]; rfl) rfl
        (by cases which <;> decide) hc
    all_goals
      rw [Block.limitEffect_paired_rest ho hc (by rw [hgate]; rfl), Block.limitsFirstRead_eq, Block.limitAtRest_eq, hgate]
      rfl

end Sys2Proof
end

section
/-! The twelve reads: what their arguments name, and what their payloads are (02 R25; 04 R81; 05 R103; 06 R116; 07 R136, R138; 08 R148, R154;
09 R162; 10 R180; 13 R205). -/
namespace Sys2Proof
open Machine

/-! ### Arguments in and out of range (O55) -/

theorem byteOf_toNat {n : Nat} (h : n < 256) : (byteOf n).toNat = n := Nat.mod_eq_of_lt h

theorem finArg_byteOf {n : Nat} (i : Fin n) (h : n ≤ 256) : finArg n (byteOf i.val) = some i := by
  have value := byteOf_toNat (lt_of_lt_of_le i.isLt h)
  rw [finArg, dif_pos (value.symm ▸ i.isLt)]
  exact congrArg some (Fin.ext value)

theorem finArg_eq_none {n : Nat} {x : Byte} (h : n ≤ x.toNat) : finArg n x = none := dif_neg (by omega)

theorem sideArg_byteOf (side : Side) : sideArg (byteOf side.number) = some side := by cases side <;> rfl

theorem sideArg_eq_none {x : Byte} (h : 1 < x.toNat) : sideArg x = none := by
  rw [sideArg]
  split
  · omega
  · omega
  · rfl

/-- A READ CHANNEL that names the channel at a place of a section (04 R69). -/
theorem ownReadChannel_section (b : Block) (k : Fin 5) {place : Nat} (hplace : place < 3) :
    ownReadChannel (byteOf (3 * k.val + place)) b =
      .done (.channel (3 * k.val + place) ((b.timer k).channelAt place) (b.drive k)) b := by
  have value : (byteOf (3 * k.val + place)).toNat = 3 * k.val + place := byteOf_toNat (by omega)
  have hk : (⟨(3 * k.val + place) / 3, by omega⟩ : Fin 5) = k := Fin.ext (by simp only; omega)
  have hmod : (3 * k.val + place) % 3 = place := by omega
  simp only [ownReadChannel, value, hk, hmod]
  rw [dif_pos (by omega)]

theorem ownReadChannel_badArgument {x : Byte} (h : 15 < x.toNat) (b : Block) : ownReadChannel x b = .plain .badArgument b := by
  rw [ownReadChannel, dif_neg (by omega), if_neg (by omega)]

/-- A READ CONFIG of a part beyond GENERAL, CHAMBER and SECTION. -/
theorem ownReadConfig_noPart {part : Byte} (h : 2 < part.toNat) (index : Byte) (b : Block) :
    ownReadConfig part index b = .plain .badArgument b := by
  rw [ownReadConfig]
  split
  · omega
  · omega
  · omega
  · rfl

theorem ownReadConfig_chamber (b : Block) (c : Fin 4) :
    ownReadConfig 1 (byteOf (c.val + 1)) b = .done (.configChamber b.config.chambers[c]) b := by
  have value : (byteOf (c.val + 1)).toNat = c.val + 1 := byteOf_toNat (by omega)
  change dite _ _ _ = _
  rw [dif_pos (by omega)]
  simp only [value, Nat.add_sub_cancel]

theorem ownReadConfig_noChamber {index : Byte} (h : index = 0 ∨ 4 < index.toNat) (b : Block) :
    ownReadConfig 1 index b = .plain .badArgument b := by
  refine dif_neg fun hindex => ?_
  rcases h with rfl | h
  · exact absurd hindex.1 (by decide)
  · omega

theorem ownReadConfig_section (b : Block) (k : Fin 5) :
    ownReadConfig 2 (byteOf k.val) b = .done (.configSection b.config.sections[k]) b := by
  change (match finArg 5 (byteOf k.val) with | some k => _ | none => _) = _
  rw [finArg_byteOf k (by decide)]

theorem ownReadConfig_noSection {index : Byte} (h : 4 < index.toNat) (b : Block) :
    ownReadConfig 2 index b = .plain .badArgument b := by
  change (match finArg 5 index with | some k => _ | none => _) = _
  rw [finArg_eq_none h]

/-! ### What the payloads are -/

theorem slotsAll_eq : slotsAll = List.finRange 16 := rfl

/-- The BOOKED vessels of a direction (05 R103). -/
theorem Block.bookedCount_eq (b : Block) (d : Direction) :
    b.bookedCount d =
      ((List.finRange 16).filter fun v => decide ((b.vessel v).state = .booked ∧ (b.vessel v).direction = d)).length := by
  simp only [Block.bookedCount, slotsAll_eq, beq_eq_decide, Bool.decide_and]

theorem Tariff.linkWaits_iff {t : Tariff} : t.linkWaits = true ↔ ∃ a, t.access = some a ∧ a.inAccess = false := by
  simp [Tariff.linkWaits, Option.any_eq_true]

/-- A DONE reply of READ JOURNAL is 48 bytes: the oldest number, the record or zeros, and the summary (13 R205). -/
theorem Block.journalPayload_length (b : Block) (r : Option AccountRecord) : (b.journalPayload r).length = 48 := by
  cases r <;> rfl

/-- The first record with a sequence number is the one a READ JOURNAL finds (09 R162). -/
theorem find?_sequence {seq : W32} {before after : List AccountRecord} {r : AccountRecord} (hr : r.sequence = seq)
    (hbefore : ∀ x ∈ before, x.sequence ≠ seq) : (before ++ r :: after).find? (fun x => x.sequence == seq) = some r := by
  have passed : before.find? (fun x => x.sequence == seq) = none := by simpa using hbefore
  simp [List.find?_append, passed, hr]

/-! ### The rows -/

/-- The row of a read, whose owner leaves the part as it was. -/
theorem exec_read {i : Instr} {s : State} {lk : Link} {code tag : Byte} {payload : List Byte} {o : OutcomeCode} {p : Payload}
    (hready : s.linkReady lk = true) (hi : i.frame = some (lk, tag, code, payload))
    (ho : i.own s.toBlock = { reply := some (o, p), after := s.toBlock }) (hc : 0x90 ≤ code.toNat := by decide) :
    exec i s = s.answers lk code tag o p s.toBlock :=
  exec_answered hi hready (permitted_all hc) ho

/-- Settles O55: what the payloads are, the arguments out of range, then read by read. -/
theorem reads : Obligations.Reads := by
  refine ⟨fun b side v lk => ?_, fun b r => ⟨?_, b.journalPayload_length r⟩, fun s lk tag x y hready => ?_, fun s lk tag hready => ?_⟩
  · refine ⟨rfl, ?_, beq_iff_eq, Tariff.linkWaits_iff, rfl, ?_⟩
    · rw [Block.bookedCount_eq]; cases side <;> rfl
    · unfold Block.estopState; rcases b.reading .estop with _ | _ | _ <;> rfl
  · cases r <;> rfl
  · refine ⟨fun h => ?_, fun h => ⟨?_, ?_⟩, fun h => ⟨?_, ?_⟩, fun h => ?_, fun h => ?_, fun h => ?_, fun h => ?_⟩
    · exact exec_read hready rfl (by simp only [Instr.own, ownReadChamber, Block.chamberArg_eq_none h]; rfl)
    · exact exec_read hready rfl (ownReadChannel_badArgument h _)
    · exact exec_read hready rfl (by simp only [Instr.own, ownReadVessel, finArg_eq_none h]; rfl)
    · exact exec_read hready rfl (by simp only [Instr.own, ownReadQueue, sideArg_eq_none h]; rfl)
    · exact exec_read hready rfl (by simp only [Instr.own, ownReadSignal, sideArg_eq_none h]; rfl)
    · exact exec_read hready rfl (by simp only [Instr.own, ownReadRateCache, finArg_eq_none h]; rfl)
    · exact exec_read hready rfl (ownReadConfig_noPart h y _)
    · exact exec_read hready rfl (ownReadConfig_noChamber h _)
    · exact exec_read hready rfl (ownReadConfig_noSection h _)
  · refine ⟨fun k hk => ?_, fun c hc => ?_, fun k => ⟨?_, ?_, ?_⟩, ?_, fun v => ?_, fun side => ?_, fun side => ?_, fun i => ?_,
      exec_read hready rfl rfl, exec_read hready rfl rfl, exec_read hready rfl rfl, exec_read hready rfl rfl,
      fun seq before after r hjournal hr hbefore => ?_, fun seq hnone => ?_, fun index => exec_read hready rfl rfl, fun c => ?_, fun k => ?_⟩
    · have named := Block.sectionArg_of_le hk (byteOf_toNat (by omega))
      exact exec_read hready rfl (by simp only [Instr.own, ownReadSection, named]; rfl)
    · have named := Block.chamberArg_eq_some.2 ⟨hc, byteOf_toNat (by omega)⟩
      exact exec_read hready rfl (by simp only [Instr.own, ownReadChamber, named]; rfl)
    · exact exec_read hready rfl (ownReadChannel_section _ k (place := 0) (by decide))
    · exact exec_read hready rfl (ownReadChannel_section _ k (place := 1) (by decide))
    · exact exec_read hready rfl (ownReadChannel_section _ k (place := 2) (by decide))
    · exact exec_read hready rfl rfl
    · refine exec_read hready rfl ?_
      simp only [Instr.own, ownReadVessel, finArg_byteOf v (by decide)]
      split <;> rfl
    · exact exec_read hready rfl (by simp only [Instr.own, ownReadQueue, sideArg_byteOf]; rfl)
    · exact exec_read hready rfl (by simp only [Instr.own, ownReadSignal, sideArg_byteOf]; rfl)
    · exact exec_read hready rfl (by simp only [Instr.own, ownReadRateCache, finArg_byteOf i (by decide)]; rfl)
    · exact exec_read hready rfl (by simp only [Instr.own, ownReadJournal, hjournal, find?_sequence hr hbefore]; rfl)
    · have missing : s.acct.journal.find? (fun x => x.sequence == seq) = none := by simpa using hnone
      exact exec_read hready rfl (by simp only [Instr.own, ownReadJournal, missing]; rfl)
    · exact exec_read hready rfl (ownReadConfig_chamber _ c)
    · exact exec_read hready rfl (ownReadConfig_section _ k)

end Sys2Proof
end

section
/-! The entry to STOPPED: what it leaves of each section, of the latches, of the calls and of the signals (02 R38, R44; 05 R92; 06 R108,
R109; 10 R173, R174). -/
namespace Sys2Proof
open Machine

/-! ### One section (O50) -/

/-- The sluice of a MANUAL section that stands drawn (10 R174). -/
def Section.drawnByHand (x : Section) : Bool := x.mode == .manual && (x.sluice == .cracked || x.sluice == .opened)

/-- A transfer that takes its first cause in CRACK or FULL, so that its sluice is shut (01 R18). -/
def Section.aborts (x : Section) : Bool := x.transfer.any fun r => r.cause.isNone && r.phase != .shutWait

/-- The record of a running transfer given ABORTED (01 R18). -/
def TransferRec.aborted (r : TransferRec) : TransferRec :=
  { r with cause := some (r.cause.getD .aborted), phase := if r.cause = none then .shutWait else r.phase }

theorem Section.drawnByHand_iff {x : Section} :
    x.drawnByHand = true ↔ x.mode = .manual ∧ (x.sluice = .cracked ∨ x.sluice = .opened) := by simp [Section.drawnByHand]

theorem Section.aborts_iff {x : Section} :
    x.aborts = true ↔ ∃ r, x.transfer = some r ∧ r.cause = none ∧ r.phase ≠ .shutWait := by
  simp [Section.aborts, Option.any_eq_true]

/-- The section record given the cause ABORTED. -/
def Section.givenAborted (x : Section) : Section :=
  { x with sluice := if x.aborts then .shutting else x.sluice, transfer := x.transfer.map TransferRec.aborted }

/-- The section record that an entry to STOPPED leaves. -/
def Section.halted (x : Section) : Section :=
  { x with
    gate := if x.moving then .stopped else x.gate,
    sluice := if x.drawnByHand ∨ x.aborts then .shutting else x.sluice,
    transfer := x.transfer.map TransferRec.aborted }

/-- The channels of a section, as an entry to STOPPED leaves them. -/
def SectionTimers.halted (limit : Nat) (x : Section) (t : SectionTimers) : SectionTimers :=
  { stroke := if x.moving then t.stroke.stop else t.stroke,
    stall := if x.moving then t.stall.stop else t.stall,
    transfer := if x.drawnByHand ∨ x.aborts then Channel.shutStart limit t.transfer else t.transfer }

section OneSection
variable (b : Block) (k : Fin 5)

theorem Block.stopIfMoving_sec :
    (b.stopIfMoving k).sec k = { b.sec k with gate := if (b.sec k).moving then .stopped else (b.sec k).gate } := by
  rw [Block.stopIfMoving]
  split
  · rw [Block.stopMotion, Block.endMotion_eq, Block.setSec_sec]
  · rfl

theorem Block.stopIfMoving_timer :
    (b.stopIfMoving k).timer k =
      { b.timer k with
        stroke := if (b.sec k).moving then (b.timer k).stroke.stop else (b.timer k).stroke,
        stall := if (b.sec k).moving then (b.timer k).stall.stop else (b.timer k).stall } := by
  rw [Block.stopIfMoving]
  split
  · rw [Block.stopMotion, Block.endMotion_eq, Block.setSec_get_timer, Block.setTimer_timer]
  · rfl

theorem Block.shutSluice_eq :
    b.shutSluice k =
      ((b.setDrive k { b.drive k with paddleCrack := false, paddleFull := false }).setSec k { b.sec k with sluice := .shutting }).setTimer k
        { b.timer k with transfer := Channel.shutStart (b.config.sections[k]).shutLimit (b.timer k).transfer } := by
  simp only [Block.shutSluice, Block.latch_resetPaddles]
  rfl

theorem Section.givenAborted_of_given {x : Section} (h : ∀ r, x.transfer = some r → r.cause ≠ none) : x.givenAborted = x := by
  rcases x with ⟨_, _, _, _, _, _, _, _, _ | ⟨_, _, _ | _, _⟩, _, _⟩
  · rfl
  · exact absurd rfl (h _ rfl)
  · rfl

/-- ABORTED given to a running transfer: the first cause stands, and its sluice is shut where it stands drawn (01 R18). -/
theorem Block.giveCause_aborted_eq :
    b.giveCause k .aborted =
      if (b.sec k).aborts then
        ((b.setDrive k { b.drive k with paddleCrack := false, paddleFull := false }).setSec k (b.sec k).givenAborted).setTimer k
          { b.timer k with transfer := Channel.shutStart (b.config.sections[k]).shutLimit (b.timer k).transfer }
      else b.setSec k (b.sec k).givenAborted := by
  have unchanged (h : ∀ r, (b.sec k).transfer = some r → r.cause ≠ none) : b.setSec k (b.sec k).givenAborted = b := by
    rw [Section.givenAborted_of_given h]
    simp [Block.setSec, Block.sec]
  rcases hx : (b.sec k).transfer with _ | r
  · rw [Block.giveCause_idle hx, if_neg (by simp [Section.aborts, hx]), unchanged (by simp [hx])]
  by_cases hr : r.cause = none
  · by_cases hp : r.phase = .shutWait
    · have still : (b.sec k).aborts = false := by simp [Section.aborts, hx, hp]
      rw [Block.giveCause_shutWait hx hr hp, still, if_neg (by decide)]
      simp [Section.givenAborted, still, hx, TransferRec.aborted, hr, hp]
    · have aborts : (b.sec k).aborts = true := by simp [Section.aborts, hx, hr, hp]
      rw [Block.giveCause_drawn hx hr hp, if_pos aborts]
      simp [Section.givenAborted, aborts, hx, TransferRec.aborted, hr, Block.setDrive_setSec]
  · rw [Block.giveCause_given hx hr, if_neg (by simp [Section.aborts, hx, hr]), unchanged (by simp [hx, hr])]

theorem Block.giveCause_aborted_sec : (b.giveCause k .aborted).sec k = (b.sec k).givenAborted := by
  rw [Block.giveCause_aborted_eq]; split <;> simp

theorem Block.giveCause_aborted_timer :
    (b.giveCause k .aborted).timer k =
      { b.timer k with
        transfer :=
          if (b.sec k).aborts then Channel.shutStart (b.config.sections[k]).shutLimit (b.timer k).transfer
          else (b.timer k).transfer } := by
  rw [Block.giveCause_aborted_eq]; split <;> simp

end OneSection

/-- What a section keeps of its own record and channels when another section is stopped. -/
theorem Block.stopSection_else (b : Block) {j k : Fin 5} (h : k ≠ j) :
    (b.stopSection j).sec k = b.sec k ∧ (b.stopSection j).timer k = b.timer k := by
  have moved : (b.stopIfMoving j).sec k = b.sec k ∧ (b.stopIfMoving j).timer k = b.timer k := by
    rw [Block.stopIfMoving]
    split <;> simp [Block.stopMotion, Block.endMotion_eq, Block.setSec_sec_ne _ _ _ _ h, Block.setTimer_timer_ne _ _ _ _ h]
  have shut (a : Block) : (a.shutSluice j).sec k = a.sec k ∧ (a.shutSluice j).timer k = a.timer k := by
    simp [Block.shutSluice_eq, Block.setSec_sec_ne _ _ _ _ h, Block.setTimer_timer_ne _ _ _ _ h]
  have given (a : Block) : (a.giveCause j .aborted).sec k = a.sec k ∧ (a.giveCause j .aborted).timer k = a.timer k := by
    rw [Block.giveCause_aborted_eq]
    split <;> simp [Block.setSec_sec_ne _ _ _ _ h, Block.setTimer_timer_ne _ _ _ _ h]
  simp only [Block.stopSection]
  split <;> simp [given, shut, moved]

/-- The section stopped, its record and its channels. -/
theorem Block.stopSection_self (b : Block) (k : Fin 5) :
    (b.stopSection k).sec k = (b.sec k).halted ∧
    (b.stopSection k).timer k = (b.timer k).halted (b.config.sections[k]).shutLimit (b.sec k) := by
  have config : (b.stopIfMoving k).config = b.config := (b.stopIfMoving_keeps k).config
  have drawn : ((b.stopIfMoving k).sec k).mode = .manual ∧
      (((b.stopIfMoving k).sec k).sluice = .cracked ∨ ((b.stopIfMoving k).sec k).sluice = .opened) ↔ (b.sec k).drawnByHand = true := by
    rw [Block.stopIfMoving_sec, Section.drawnByHand_iff]
  have aborts (gate : GateState) (sluice : SluiceState) :
      { b.sec k with gate := gate, sluice := sluice }.aborts = (b.sec k).aborts := rfl
  simp only [Block.stopSection, drawn]
  by_cases hd : (b.sec k).drawnByHand = true <;>
    simp [Block.giveCause_aborted_sec, Block.giveCause_aborted_timer, Block.shutSluice_eq, Block.stopIfMoving_sec,
      Block.stopIfMoving_timer, config, Section.halted, SectionTimers.halted, Section.givenAborted, hd, aborts, Channel.shutStart]

/-- The sections stopped one after the other: each of them once, the others not at all. -/
theorem Block.foldl_stopSection (k : Fin 5) {ks : List (Fin 5)} (hks : ks.Nodup) (b : Block) :
    (ks.foldl Block.stopSection b).sec k = (if k ∈ ks then (b.sec k).halted else b.sec k) ∧
    (ks.foldl Block.stopSection b).timer k =
      if k ∈ ks then (b.timer k).halted (b.config.sections[k]).shutLimit (b.sec k) else b.timer k := by
  induction ks generalizing b with
  | nil => exact ⟨rfl, rfl⟩
  | cons j ks ih =>
    obtain ⟨hj, hks⟩ := List.nodup_cons.1 hks
    obtain ⟨sec, timer⟩ := ih hks (b.stopSection j)
    rw [List.foldl_cons, sec, timer, (b.stopSection_keeps j).config]
    by_cases hk : k = j
    · subst hk
      simp [hj, b.stopSection_self k]
    · simp [hk, b.stopSection_else hk]

theorem Block.mem_secsIn {b : Block} {k : Fin 5} : k ∈ b.secsIn ↔ k ≤ b.n := by
  have hk : k ∈ sectionsAll := by revert k; decide
  simp [Block.secsIn, hk]

theorem Block.secsIn_nodup (b : Block) : b.secsIn.Nodup := List.Nodup.filter _ (by decide)

/-! ### The latches -/

theorem Block.latch_resetAll (b : Block) (k : Fin 5) : b.latch k latchNone latchAll = b.setDrive k drivesReset := by
  simp [Block.latch, DriveLatches.apply, latchNone, latchAll, drivesReset]

theorem Block.foldl_latch_resetAll (k : Fin 5) (ks : List (Fin 5)) (b : Block) :
    (ks.foldl (fun a j => a.latch j latchNone latchAll) b).drive k = if k ∈ ks then drivesReset else b.drive k := by
  induction ks generalizing b with
  | nil => rfl
  | cons j ks ih =>
    rw [List.foldl_cons, ih, Block.latch_resetAll]
    by_cases hk : k = j
    · subst hk; simp
    · simp [hk, Block.setDrive_drive_ne _ _ _ _ hk]

/-- All four latches of every section are reset (10 R174). -/
theorem Block.latchesOff_drives (b : Block) : b.latchesOff.drives = Vector.replicate 5 drivesReset := by
  ext k hk
  have all : (⟨k, hk⟩ : Fin 5) ∈ sectionsAll := by
    generalize (⟨k, hk⟩ : Fin 5) = j
    revert j; decide
  have reset := Block.foldl_latch_resetAll ⟨k, hk⟩ sectionsAll b
  rw [if_pos all] at reset
  rw [Vector.getElem_replicate]
  exact reset

/-! ### The calls -/

theorem Block.called_state {b : Block} {side : Side} {v : Fin 16} (h : b.called side = some v) : (b.vessel v).state = .called := by
  simpa using List.find?_some h

theorem Block.called_congr {a b : Block} (hq : a.queues = b.queues) (hv : a.vessels = b.vessels) (side : Side) :
    a.called side = b.called side := by
  simp only [Block.called, Block.queue, Block.vessel, hq, hv]

theorem Block.endCall_vessel (b : Block) (side : Side) (v : Fin 16) :
    (b.endCall side).vessel v = if b.called side = some v then { b.vessel v with state := .waiting } else b.vessel v := by
  rw [Block.endCall]
  cases h : b.called side with
  | none => rfl
  | some w =>
    by_cases hv : v = w
    · subst hv; simp
    · simp [Block.setVessel_vessel_ne _ _ _ _ hv, Ne.symm hv]

/-- The end of one call leaves the call of the other side, unless both are of one vessel. -/
theorem Block.called_endCall {b : Block} {side other : Side} {v : Fin 16} (hv : b.called other = some v) (h : b.called side ≠ some v) :
    (b.endCall side).called other = some v := by
  have queue : (b.endCall side).queue other = b.queue other := congrArg (·.get other) (b.endCall_keeps side).queues
  obtain ⟨-, before, after, hqueue, hbefore⟩ := List.find?_eq_some_iff_append.1 hv
  refine List.find?_eq_some_iff_append.2 ⟨?_, before, after, queue.trans hqueue, fun w hw => ?_⟩
  · rw [Block.endCall_vessel, if_neg h]
    exact beq_iff_eq.2 (Block.called_state hv)
  · have uncalled := hbefore w hw
    rw [Block.endCall_vessel]
    split
    · rfl
    · exact uncalled

/-- The CALLED vessel of either side returns to WAITING (05 R92). -/
theorem Block.endCalls_called {b : Block} {side : Side} {v : Fin 16} (h : b.called side = some v) :
    b.endCalls.vessel v = { b.vessel v with state := .waiting } := by
  rw [Block.endCalls, Block.endCall_vessel, Block.endCall_vessel]
  by_cases hlower : b.called .lower = some v
  · have ended : (b.endCall .lower).called .upper ≠ some v := fun hupper => by
      have called := Block.called_state hupper
      rw [Block.endCall_vessel, if_pos hlower] at called
      simp at called
    rw [if_neg ended, if_pos hlower]
  · have hupper : b.called .upper = some v := by
      cases side
      · exact absurd h hlower
      · exact h
    rw [if_pos (Block.called_endCall hupper hlower), if_neg hlower]

theorem Block.endCalls_uncalled {b : Block} {v : Fin 16} (h : (b.vessel v).state ≠ .called) : b.endCalls.vessel v = b.vessel v := by
  have lower : (b.endCall .lower).vessel v = b.vessel v := by
    rw [Block.endCall_vessel, if_neg fun hc => h (Block.called_state hc)]
  rw [Block.endCalls, Block.endCall_vessel, if_neg fun hc => h (lower ▸ Block.called_state hc), lower]

/-- Which calls end depends on the queues and the vessels alone. -/
theorem Block.endCalls_vessels_congr {a b : Block} (hq : a.queues = b.queues) (hv : a.vessels = b.vessels) :
    a.endCalls.vessels = b.endCalls.vessels := by
  have endCall {a b : Block} (hq : a.queues = b.queues) (hv : a.vessels = b.vessels) (side : Side) :
      (a.endCall side).vessels = (b.endCall side).vessels := by
    rw [Block.endCall, Block.endCall, Block.called_congr hq hv]
    cases b.called side <;> simp [Block.setVessel, Block.vessel, hv]
  refine endCall ?_ (endCall hq hv .lower) .upper
  rw [(a.endCall_keeps .lower).queues, (b.endCall_keeps .lower).queues, hq]

/-! ### The signals -/

/-- In STOPPED every signal stands at STOP: derived in AUTO, forced in MANUAL (06 R108, R109). -/
theorem Block.dueAspect_stopped {b : Block} (h : b.cond.condition = .stopped) (side : Side) : b.dueAspect side = .stop := by
  rw [Block.dueAspect]
  cases (b.signal side).mode
  case auto => simp only [Block.derive, h]
  case manual => cases (b.signal side).aspect <;> simp [Block.manualAllowed, h]

section ShowAspect
variable (b : Block) (side other : Side) (a : Aspect)

theorem Block.showAspect_signal :
    (b.showAspect side a).signal other =
      if other = side ∧ (b.signal other).aspect ≠ a then (b.signal other).change a else b.signal other := by
  rw [Block.showAspect]
  by_cases ho : other = side
  · subst ho; split <;> simp_all
  · split <;> simp [ho, Block.setSignal_signal_ne _ _ _ _ ho]

theorem Block.showAspect_lamp :
    (b.showAspect side a).lamp other =
      if other = side ∧ (b.signal other).aspect ≠ a then a.lamps b.flasher.on else b.lamp other := by
  rw [Block.showAspect]
  by_cases ho : other = side
  · subst ho; split <;> simp_all
  · split <;> simp [ho, Block.setLamp_lamp_ne _ _ _ _ ho]

end ShowAspect

/-- The signals brought up to STOPPED: each signal not at STOP is changed to it (06 R106, R108, R109). -/
theorem Block.refreshSignals_stopped {b : Block} (h : b.cond.condition = .stopped) (side : Side) :
    b.refreshSignals.signal side = (if (b.signal side).aspect = .stop then b.signal side else (b.signal side).change .stop) ∧
    b.refreshSignals.lamp side = (if (b.signal side).aspect = .stop then b.lamp side else { red := true, green := false }) := by
  have kept : (b.showAspect .lower .stop).cond.condition = .stopped := by rw [(b.showAspect_keeps .lower .stop).cond, h]
  simp only [Block.refreshSignals, Block.refreshSignal, Block.dueAspect_stopped h, Block.dueAspect_stopped kept,
    Block.showAspect_signal, Block.showAspect_lamp]
  by_cases hstop : (b.signal side).aspect = .stop <;> cases side <;> simp [hstop, Aspect.lamps]

/-! ### The entry -/

/-- The part before its signals are brought up to the entry: sections, latches, calls and condition (10 R174). -/
def Block.halted (b : Block) (cause : ConditionCause) (link : Option Link) : Block :=
  (b.secsIn.foldl Block.stopSection b).latchesOff.endCalls.changeCondition .stopped cause link

theorem Block.enterStopped_eq (b : Block) (cause : ConditionCause) (link : Option Link) :
    b.enterStopped cause link = (b.halted cause link).refreshSignals := rfl

section Halted
variable (b : Block) (cause : ConditionCause) (link : Option Link)

theorem Block.latchesOff_stopped_keeps : b.keeps (b.secsIn.foldl Block.stopSection b).latchesOff [.sections, .drives, .timers] :=
  (keeps_foldl (fun a k => a.stopSection_keeps k) _ _).step (Block.latchesOff_keeps _) (by decide)

theorem Block.callsEnded_keeps :
    b.keeps (b.secsIn.foldl Block.stopSection b).latchesOff.endCalls [.sections, .drives, .timers, .vessels] :=
  (b.latchesOff_stopped_keeps.mono (by decide)).step (Block.endCalls_keeps _) (by decide)

theorem Block.enterStopped_cond :
    (b.enterStopped cause link).cond = { b.cond with condition := .stopped, lastCause := cause, causeLink := link } := by
  rw [Block.enterStopped_eq, (Block.refreshSignals_keeps _).cond]
  simp [Block.halted, Block.changeCondition, b.callsEnded_keeps.cond]

theorem Block.enterStopped_notices :
    (b.enterStopped cause link).notices = (b.raise (.conditionChange .stopped b.cond.condition cause link)).notices := by
  rw [Block.enterStopped_eq, (Block.refreshSignals_keeps _).notices]
  simp [Block.halted, Block.changeCondition, Block.raise, b.callsEnded_keeps.cond, b.callsEnded_keeps.notices]

theorem Block.enterStopped_drives : (b.enterStopped cause link).drives = Vector.replicate 5 drivesReset := by
  rw [Block.enterStopped_eq, (Block.refreshSignals_keeps _).drives, Block.halted, (Block.changeCondition_keeps _ _ _ _).drives,
    (Block.endCalls_keeps _).drives, Block.latchesOff_drives]

/-- The records and channels of the flight are halted, those above N stand. -/
theorem Block.enterStopped_section (k : Fin 5) :
    (b.enterStopped cause link).sec k = (if k ≤ b.n then (b.sec k).halted else b.sec k) ∧
    (b.enterStopped cause link).timer k =
      if k ≤ b.n then (b.timer k).halted (b.config.sections[k]).shutLimit (b.sec k) else b.timer k := by
  have later : (b.secsIn.foldl Block.stopSection b).keeps (b.enterStopped cause link)
      [.drives, .vessels, .cond, .notices, .signals, .lamps] :=
    (((((Block.keeps_refl _ _).step (Block.latchesOff_keeps _) (by decide)).step (Block.endCalls_keeps _) (by decide)).step
      (Block.changeCondition_keeps _ _ _ _) (by decide)).step (Block.refreshSignals_keeps _) (by decide))
  obtain ⟨sec, timer⟩ := Block.foldl_stopSection k b.secsIn_nodup b
  simp only [Block.mem_secsIn] at sec timer
  exact ⟨(congrArg (·[k]) later.sections).trans sec, (congrArg (·[k]) later.timers).trans timer⟩

theorem Block.enterStopped_vessels :
    (b.enterStopped cause link).vessels = b.endCalls.vessels := by
  rw [Block.enterStopped_eq, (Block.refreshSignals_keeps _).vessels, Block.halted, (Block.changeCondition_keeps _ _ _ _).vessels]
  exact Block.endCalls_vessels_congr b.latchesOff_stopped_keeps.queues b.latchesOff_stopped_keeps.vessels

theorem Block.enterStopped_signal (side : Side) :
    (b.enterStopped cause link).signal side =
      (if (b.signal side).aspect = .stop then b.signal side else (b.signal side).change .stop) ∧
    (b.enterStopped cause link).lamp side =
      (if (b.signal side).aspect = .stop then b.lamp side else { red := true, green := false }) := by
  have kept : b.keeps (b.halted cause link) [.sections, .drives, .timers, .vessels, .cond, .notices] :=
    (b.callsEnded_keeps.mono (by decide)).step (Block.changeCondition_keeps _ _ _ _) (by decide)
  have signal : (b.halted cause link).signal side = b.signal side := congrArg (·.get side) kept.signals
  have lamp : (b.halted cause link).lamp side = b.lamp side := congrArg (·.get side) kept.lamps
  have stopped : (b.halted cause link).cond.condition = .stopped := rfl
  rw [Block.enterStopped_eq, ← signal, ← lamp]
  exact Block.refreshSignals_stopped stopped side

end Halted

/-- Settles O50, record by record: condition, latches, notices, sections, calls, signals, and what stands. -/
theorem entryToStopped : Obligations.EntryToStopped := by
  refine ⟨fun b cause link => ?_, fun b asserted => ?_⟩
  · intro b'
    have kept : b.keeps b' _ := b.enterStopped_keeps cause link
    refine ⟨b.enterStopped_cond cause link, b.enterStopped_drives cause link, b.enterStopped_notices cause link, fun k => ?_,
      fun side v hv => ?_, fun v hv => ?_, fun side => ?_, kept.tariff, kept.acct, kept.lists, kept.queues, kept.links, kept.chambers,
      kept.config, kept.quals, kept.tick, kept.flasher, kept.resetHeld⟩
    · obtain ⟨sec, timer⟩ := b.enterStopped_section cause link k
      intro x t limit drawn aborted
      have shut : (b.sec k).drawnByHand = true ∨ (b.sec k).aborts = true ↔ drawn ∨ aborted :=
        or_congr Section.drawnByHand_iff Section.aborts_iff
      refine ⟨fun hk => ?_, fun hk => ?_⟩
      · rw [if_pos hk] at sec timer
        simp only [b', sec, timer, Section.halted, SectionTimers.halted]
        refine ⟨rfl, rfl, fun h => ?_, fun hd ha => ?_, rfl, rfl, rfl⟩
        · rw [if_pos (shut.2 h), if_pos (shut.2 h)]; exact ⟨rfl, rfl⟩
        · rw [if_neg (mt shut.1 (not_or.2 ⟨hd, ha⟩)), if_neg (mt shut.1 (not_or.2 ⟨hd, ha⟩))]; exact ⟨rfl, rfl⟩
      · rw [if_neg (not_le.2 hk)] at sec timer
        exact ⟨sec, timer⟩
    · exact (congrArg (·[v]) (b.enterStopped_vessels cause link)).trans (Block.endCalls_called hv)
    · exact (congrArg (·[v]) (b.enterStopped_vessels cause link)).trans (Block.endCalls_uncalled hv)
    · obtain ⟨signal, lamp⟩ := b.enterStopped_signal cause link side
      by_cases hstop : (b.signal side).aspect = .stop
      · rw [if_pos hstop] at signal lamp
        simp [b', signal, lamp, hstop]
      · rw [if_neg hstop] at signal lamp
        simp [b', signal, lamp, hstop, Signal.change]
  · cases asserted <;> simp [Block.estopEffect]

end Sys2Proof
end

section
/-! SUPPORT. Rules for the proofs about the events inside the part: when none stands, what each row of one does, and the order in which a tick
takes them (04 R63; log 1, log 2). -/
namespace Sys2Proof
open Machine

/-! ### When no event stands -/

/-- No arrival has been made and no channel, lamp, second or lease has come to its event. -/
structure Block.Quiet (b : Block) : Prop where
  arrivals (i : Input) : (b.qual i).raised = none
  stroke (k : Fin 5) : (b.timer k).stroke.state ≠ .ended
  stall (k : Fin 5) : (b.timer k).stall.state ≠ .ended
  transfer (k : Fin 5) : (b.timer k).transfer.state = .idle
  flasher : b.flasher.channel.count ≠ 0
  red (side : Side) : (b.signal side).redStage ≠ .settling
  green (side : Side) : (b.signal side).greenStage ≠ .settling
  second : b.tick.secondDue = false
  leases (lk : Link) : (b.link lk).lease.state ≠ .running

/-! ### Events that are not due -/

theorem Signal.settleDue_iff {x : Signal} {lamp : Lamp} : x.settleDue lamp = true ↔ x.stage lamp = .settling ∧ x.settle lamp = 0 := by
  simp only [Signal.settleDue, Bool.and_eq_true, beq_iff_eq]

/-- LAMP_SETTLE_EXPIRY that is not due changes nothing (log 1). -/
theorem Block.settleExpiry_else {b : Block} {side : Side} {lamp : Lamp}
    (h : ¬ ((b.signal side).stage lamp = .settling ∧ (b.signal side).settle lamp = 0)) :
    b.settleExpiry side lamp = b := by
  rw [Block.settleExpiry, if_neg (mt Signal.settleDue_iff.1 h)]

/-- LEASE_EXPIRY needs a RUNNING lease (03 R57). -/
theorem Block.leaseExpiry_idle {b : Block} {lk : Link} (h : (b.link lk).lease.state ≠ .running) : b.leaseExpiry lk = b := by
  rw [Block.leaseExpiry, if_neg fun due => h due.1]

/-! ### The rows of the events -/

/-- What the row of an event inside the part does to the part; the other rows have none. -/
def Instr.event (i : Instr) : Option (Block → Block) :=
  match i with
  | .zero k => some (·.zeroEvent k)
  | .stallExpiry k => some (·.stallEvent k)
  | .compare k => some (·.compareEvent k)
  | .expiryLimit k => some (·.limitExpiry k)
  | .expiryShut k => some (·.shutExpiry k)
  | .flasherPhaseChange => some Block.phaseChange
  | .lampSettleExpiry side lamp => some (·.settleExpiry side lamp)
  | .flightClockAdvance => some Block.clockAdvance
  | .leaseExpiry lk => some (·.leaseExpiry lk)
  | _ => i.arrivalInput.map fun input b => b.arrival input

/-- An event's row does what the event does, and no more. -/
theorem exec_event {i : Instr} {f : Block → Block} (h : i.event = some f) (s : State) : exec i s = s.act f := by
  cases i
  case limitArrival | beamArrival | headSensorArrival | paddleShutArrival | floatArrival | bandArrival | lampProvingArrival | estopArrival =>
    obtain rfl := Option.some.inj h; exact exec_arrival rfl s
  case zero | stallExpiry | compare | expiryLimit | expiryShut | flasherPhaseChange | lampSettleExpiry | flightClockAdvance | leaseExpiry =>
    obtain rfl := Option.some.inj h; rfl
  all_goals exact absurd h nofun

/-- The events of one section's channels, in the order in which they are taken (log 2). -/
def channelOps (k : Fin 5) : List (Block → Block) :=
  [(·.zeroEvent k), (·.stallEvent k), (·.compareEvent k), (·.limitExpiry k), (·.shutExpiry k)]

/-- What is asked of each side's lamps. -/
def settleOps (side : Side) : List (Block → Block) := [(·.settleExpiry side .red), (·.settleExpiry side .green)]

/-- Every event of an earlier tick, in the order in which a tick takes those that stand (log 2). -/
def outstandingOps : List (Block → Block) :=
  Input.all.map (fun input b => b.arrival input) ++ sectionsAll.flatMap channelOps ++ [Block.phaseChange] ++ Side.all.flatMap settleOps ++
  [Block.clockAdvance, (·.leaseExpiry .u), (·.leaseExpiry .l), (·.leaseExpiry .t)]

/-- `takeOutstanding` is the run of those events. -/
theorem Block.takeOutstanding_eq_foldl (b : Block) : b.takeOutstanding = outstandingOps.foldl (fun b f => f b) b := by
  simp only [outstandingOps, List.foldl_append, List.foldl_map, List.foldl_flatMap, Side.all, List.flatMap_cons, List.flatMap_nil,
    settleOps, channelOps, List.foldl_cons, List.foldl_nil, List.append_nil]
  rfl

/-- Rows whose events are listed in order run as those events do. -/
theorem foldl_event_rows {rows : List Instr} {ops : List (Block → Block)} (run : State → Instr → State)
    (hrun : ∀ s i t, exec i s = .next t → run s i = t) (h : rows.map Instr.event = ops.map some) (s : State) :
    rows.foldl run s = { s with toBlock := ops.foldl (fun b f => f b) s.toBlock } := by
  refine foldl_rows run hrun ?_ s
  have same : List.Forall₂ (fun i f => i.event = some f) rows ops := by
    rw [← List.forall₂_eq_eq_eq, List.forall₂_map_left_iff, List.forall₂_map_right_iff] at h
    exact h
  exact same.imp fun i f hi => exec_event hi

/-! ### When no event stands, none acts -/

/-- A channel that has not ENDED, with its section's transfer channel IDLE, gives no event (04 R71 to R75). -/
theorem Block.channelOps_quiet {b : Block} (quiet : b.Quiet) (k : Fin 5) : ∀ f ∈ channelOps k, f b = b := by
  have idle := quiet.transfer k
  simp only [channelOps, List.forall_mem_cons, List.not_mem_nil, false_imp_iff, implies_true, and_true]
  refine ⟨?_, ?_, ?_, ?_, ?_⟩
  · rw [Block.zeroEvent_eq, if_neg fun h => quiet.stroke k h.2.2]
  · rw [Block.stallEvent_eq, if_neg fun h => quiet.stall k h.2]
  · cases hx : (b.sec k).transfer
    case none => exact Block.compareEvent_idle hx
    case some r => simp [Block.compareEvent_running hx, idle]
  · cases hx : (b.sec k).transfer
    case none => exact Block.limitExpiry_idle hx
    case some r => simp [Block.limitExpiry_running hx, idle]
  · exact Block.shutExpiry_else (by simp [idle])

theorem Block.settleOps_quiet {b : Block} (quiet : b.Quiet) (side : Side) : ∀ f ∈ settleOps side, f b = b := by
  simp only [settleOps, List.forall_mem_cons, List.not_mem_nil, false_imp_iff, implies_true, and_true]
  exact ⟨Block.settleExpiry_else fun h => quiet.red side h.1, Block.settleExpiry_else fun h => quiet.green side h.1⟩

theorem Block.outstandingOps_quiet {b : Block} (quiet : b.Quiet) : ∀ f ∈ outstandingOps, f b = b := by
  simp only [outstandingOps, List.forall_mem_append, List.forall_mem_map, List.forall_mem_flatMap, List.forall_mem_cons,
    List.not_mem_nil, false_imp_iff, implies_true, and_true]
  refine ⟨⟨⟨⟨fun i _ => Block.arrival_none (quiet.arrivals i), fun k _ => Block.channelOps_quiet quiet k⟩, ?_⟩,
    fun side _ => Block.settleOps_quiet quiet side⟩, ?_, Block.leaseExpiry_idle (quiet.leases _), Block.leaseExpiry_idle (quiet.leases _),
    Block.leaseExpiry_idle (quiet.leases _)⟩
  · rw [Block.phaseChange, if_neg fun due => quiet.flasher due.2]
  · rw [Block.clockAdvance, if_neg (by simp [quiet.second])]

theorem Block.takeOutstanding_quiet {b : Block} (quiet : b.Quiet) : b.takeOutstanding = b := by
  rw [Block.takeOutstanding_eq_foldl]
  refine List.foldlRecOn (motive := (· = b)) outstandingOps _ rfl fun a ha f hf => ?_
  rw [ha]
  exact Block.outstandingOps_quiet quiet f hf

end Sys2Proof
end

section
/-! The lamps and the flasher: the judgement of a lamp, the end of its settling, and a phase change at a signal (04 R76; 06 R106, R112,
R113). -/
namespace Sys2Proof
open Machine

/-! ### The judgement of a lamp (O39) -/

section ProvingArrival
variable {b : Block} {side : Side} {lamp : Lamp} (proven : Bool)

theorem Block.provingArrival_dark (h : (b.signal side).stage lamp = .dark) : b.provingArrival side lamp proven = b := by
  simp only [Block.provingArrival, h]

/-- While a lamp settles, an arrival can find it proven and nothing else (06 R112). -/
theorem Block.provingArrival_settling (h : (b.signal side).stage lamp = .settling) :
    b.provingArrival side lamp proven = if proven then b.judgeLamp side lamp true else b := by
  simp only [Block.provingArrival, h]

theorem Block.provingArrival_watching (h : (b.signal side).stage lamp = .watching) :
    b.provingArrival side lamp proven = b.judgeLamp side lamp proven := by
  simp only [Block.provingArrival, h]

/-- In a flash cycle a proof is marked, and judges at once in the lit phase alone (06 R113). -/
theorem Block.provingArrival_flashing (h : (b.signal side).stage lamp = .flashing) :
    b.provingArrival side lamp proven =
      (let marked := b.setSignal side { b.signal side with proof := true }
       if proven = false then b else if b.flasher.on then marked.judgeLamp side lamp true else marked) := by
  simp only [Block.provingArrival, h]
  cases proven <;> rfl

end ProvingArrival

/-! ### The end of settling -/

/-- A SETTLING lamp come to WATCHING (06 R112). -/
def Signal.watched (x : Signal) (lamp : Lamp) : Signal :=
  match lamp with
  | .red => { x with redStage := .watching }
  | .green => { x with greenStage := .watching }

section SettleExpiry
variable {b : Block} {side : Side} {lamp : Lamp}

/-- The lamp is judged on its reading, which the change of its stage leaves as it stands (06 R112). -/
theorem Block.settleExpiry_due (hstage : (b.signal side).stage lamp = .settling) (hcount : (b.signal side).settle lamp = 0) :
    b.settleExpiry side lamp =
      (let watching := b.setSignal side ((b.signal side).watched lamp)
       match b.reading (lamp.proving side) with
       | some proven => (watching.judgeLamp side lamp proven).refreshSignals
       | none => watching) := by
  rw [Block.settleExpiry, if_pos (Signal.settleDue_iff.2 ⟨hstage, hcount⟩)]
  rfl

end SettleExpiry

theorem exec_lampSettleExpiry (s : State) (side : Side) (lamp : Lamp) :
    exec (.lampSettleExpiry side lamp) s = s.becomes (s.settleExpiry side lamp) := rfl

/-! ### The flasher -/

/-- What leaves the qualifiers alone leaves every reading as it stands (04 R65). -/
theorem Block.keeps.reading {b b' : Block} {parts : List Part} (h : b.keeps b' parts) {i : Input}
    (hp : Part.quals ∉ parts := by decide) : b'.reading i = b.reading i := congrArg (fun quals => quals[i.index].state) (h.quals hp)

section PhaseAt
variable {b : Block} {side : Side}

/-- A phase change does nothing at a signal that neither shows CLOSED nor flashes (06 R106, R113). -/
theorem Block.phaseAt_steady (haspect : (b.signal side).aspect ≠ .closed) (hstage : (b.signal side).redStage ≠ .flashing) :
    b.phaseAt side = b := by
  simp [Block.phaseAt, haspect, hstage]

/-- At a change to OFF no cycle ends, so that CLOSED darkens its red lamp alone (06 R106, R113). -/
theorem Block.phaseAt_off (haspect : (b.signal side).aspect = .closed) (hoff : b.flasher.on = false) :
    b.phaseAt side = b.setLamp side { b.lamp side with red := false } := by
  simp [Block.phaseAt, haspect, hoff]

/-- At a change to ON the cycle that ends is judged, unless it is the first, and the new one is marked by the reading (06 R113). -/
theorem Block.phaseAt_on (haspect : (b.signal side).aspect = .closed) (hon : b.flasher.on = true)
    (hstage : (b.signal side).redStage = .flashing) :
    b.phaseAt side =
      (let lit := b.setLamp side { b.lamp side with red := true }
       let judged :=
         if (b.signal side).firstCycle then lit.setSignal side { b.signal side with firstCycle := false }
         else lit.judgeLamp side .red (b.signal side).proof
       judged.setSignal side { judged.signal side with proof := b.reading (.redProving side) == some true }) := by
  have lit : b.keeps (b.setLamp side { b.lamp side with red := true }) [.lamps, .signals, .notices] :=
    (b.setLamp_keeps _ _).mono (by decide)
  simp only [Block.phaseAt, haspect, hon, hstage, if_true, Bool.true_and, beq_self_eq_true, Block.setLamp_get_signal]
  split
  · rw [(lit.step (Block.setSignal_keeps _ _ _) (by decide)).reading]
  · rw [(lit.step (Block.judgeLamp_keeps _ _ _ _) (by decide)).reading]

end PhaseAt

/-- Settles O39: the judgement and the arrivals by the lamp's stage, then the two rows by whether they are due. -/
theorem lampsAndFlasher : Obligations.LampsAndFlasher := by
  refine ⟨fun b side lamp => ⟨rfl, rfl, fun proven => ⟨?_, ?_, ?_, ?_⟩⟩, fun s side lamp => ?_,
    fun s => ⟨?_, fun side => ?_, fun side => ?_⟩⟩
  · exact Block.provingArrival_dark proven
  · exact Block.provingArrival_settling proven
  · exact Block.provingArrival_watching proven
  · exact Block.provingArrival_flashing proven
  · rw [exec_lampSettleExpiry]
    intro x watching
    split
    case isTrue due =>
      obtain ⟨hstage, hcount⟩ := due
      rw [Block.settleExpiry_due hstage hcount]
      rfl
    case isFalse early => rw [Block.settleExpiry_else early]; rfl
  · exact apply_ite s.becomes ..
  · exact Block.phaseAt_steady
  · exact fun haspect => ⟨Block.phaseAt_off haspect, Block.phaseAt_on haspect⟩

end Sys2Proof
end

section
/-! The motion tick: the events that stand are taken, then the tick number, the qualifiers, the arrivals named first and the count steps
(04 R63, R65, R72, R73, R75, R76; 06 R112; log 2). -/
namespace Sys2Proof
open Machine

/-! ### What a tick counts (O54) -/

section CountSteps
variable {ch : Channel}

theorem Channel.stallTick_starting (h : ch.state = .starting) : ch.stallTick = { ch with state := .running, count := ch.reload } := by
  simp only [Channel.stallTick, h]

theorem Channel.stallTick_running (h : ch.state = .running) :
    ch.stallTick = if ch.count ≤ 1 then { ch with state := .ended, count := 0 } else { ch with count := ch.count - 1 } := by
  simp only [Channel.stallTick, h]

theorem Channel.transferTick_starting (h : ch.state = .starting) :
    ch.transferTick = Channel.limitTest { ch with state := .running, count := 0 } := by
  simp only [Channel.transferTick, h]

theorem Channel.transferTick_up (h : ch.state = .running) (hdir : ch.dir = .up) :
    ch.transferTick = Channel.limitTest { ch with count := ch.count + 1 } := by
  simp only [Channel.transferTick, h, hdir]

theorem Channel.transferTick_down (h : ch.state = .running) (hdir : ch.dir = .down) :
    ch.transferTick = if ch.count ≤ 1 then { ch with state := .ended, count := 0 } else { ch with count := ch.count - 1 } := by
  simp only [Channel.transferTick, h, hdir]

/-- A channel that does not run is left alone (04 R69). -/
theorem Channel.tick_still (h : ch.state = .idle ∨ ch.state = .ended) : ch.stallTick = ch ∧ ch.transferTick = ch := by
  rcases h with h | h <;> simp only [Channel.stallTick, Channel.transferTick, h, and_self]

end CountSteps

theorem exec_motionTick (s : State) (pins : Vector Bool 40) (first : List Input) :
    exec (.motionTick pins first) s = s.becomes (s.motionTick pins first) := rfl

/-- One motion tick, by the part `o` that the events which stood have left: with the pin held, the tick number alone steps (04 R63,
10 R182). -/
theorem Block.motionTick_of_takeOutstanding {b o : Block} (h : b.takeOutstanding = o) (pins : Vector Bool 40) (first : List Input) :
    b.motionTick pins first =
      (let stepped := o.setTick o.tick.advance
       if o.resetHeld then stepped else (first.foldl Block.arrival (stepped.sampleAll pins)).countSteps) := by
  simp only [Block.motionTick, h, Block.setTick_resetHeld]

/-- Settles O54: the rows of what stands, then the tick and each of its count steps. -/
theorem motionTick : Obligations.MotionTick := by
  refine ⟨fun s => ?_, fun b i => ?_, fun x => rfl,
    ⟨fun s pins first => ?_, fun b raised timers flasher settling second leases => ?_, fun q x => rfl⟩,
    fun ch => ⟨Channel.stallTick_starting, fun h hcount => ?_, fun h hcount => ?_, Channel.tick_still, fun h hlimit => ?_,
      fun h hdir hcount => ?_, fun h hdir hcount => ?_, fun h hdir hcount => ?_, fun h hdir hcount => ?_⟩⟩
  · intro run sections chambers sides arrivals channels lamps rows
    have listed : rows.map Instr.event = outstandingOps.map some := by
      simp only [rows, arrivals, outstandingOps, Input.all, List.map_append]
      rfl
    rw [Block.takeOutstanding_eq_foldl]
    exact foldl_event_rows run (fun s i t h => by simp only [run, h]) listed s
  · intro q
    cases h : q.raised
    case none => exact Block.arrival_none h
    case some v => exact Block.arrival_some h
  · generalize ho : s.takeOutstanding = o
    rw [exec_motionTick, Block.motionTick_of_takeOutstanding ho]
    exact apply_ite s.becomes ..
  · exact Block.takeOutstanding_quiet
      { arrivals := raised
        stroke := fun k => (timers k).1
        stall := fun k => (timers k).2.1
        transfer := fun k => (timers k).2.2
        flasher := flasher
        red := fun side => (settling side).1
        green := fun side => (settling side).2
        second := second
        leases := leases }
  · rw [Channel.stallTick_running h, if_neg (by omega)]
  · rw [Channel.stallTick_running h, if_pos hcount]
  · rw [Channel.transferTick_starting h, Channel.limitTest, if_neg (Ne.symm hlimit)]
  · rw [Channel.transferTick_up h hdir, Channel.limitTest, if_neg hcount]
  · rw [Channel.transferTick_up h hdir, Channel.limitTest, if_pos hcount]
  · rw [Channel.transferTick_down h hdir, if_neg (by omega)]
  · rw [Channel.transferTick_down h hdir, if_pos hcount]

end Sys2Proof
end

section
/-! SUPPORT. Rules for the proofs about vessels: the lowest-numbered free place, the slot byte, a record written twice, and the request rows
of the toll office. -/
namespace Sys2Proof
open Machine

/-! ### The lowest-numbered place -/

/-- A search of the places in order finds the lowest-numbered one that passes. -/
theorem find?_finRange_eq_some {n : Nat} {p : Fin n → Bool} {i : Fin n} :
    (List.finRange n).find? p = some i ↔ p i = true ∧ ∀ j < i, p j = false := by
  rw [List.find?_eq_some_iff_getElem]
  refine and_congr_right fun _ => ⟨?_, fun h => ⟨i.val, by simp, by simp, fun j hj => ?_⟩⟩
  · rintro ⟨k, hk, rfl, h⟩ j hj
    simpa using h j.val (by simpa [Fin.lt_def] using hj)
  · simpa using h ⟨j, by omega⟩ hj

/-- The lowest-numbered FREE slot (05 R90). -/
theorem Block.freeSlot_eq_some {b : Block} {v : Fin 16} :
    b.freeSlot = some v ↔ (b.vessel v).state = .free ∧ ∀ w : Fin 16, w < v → (b.vessel w).state ≠ .free := by
  rw [Block.freeSlot, slotsAll_eq, find?_finRange_eq_some]
  simp only [beq_iff_eq, beq_eq_false_iff_ne]

/-- The lowest-numbered FREE meter (08 R144). -/
theorem Block.freeMeter_eq_some {b : Block} {m : Fin 8} :
    b.freeMeter = some m ↔ (b.meter m).state = .free ∧ ∀ j : Fin 8, j < m → (b.meter j).state ≠ .free := by
  rw [Block.freeMeter, show metersAll = List.finRange 8 from rfl, find?_finRange_eq_some]
  simp only [beq_iff_eq, beq_eq_false_iff_ne]

/-! ### Arguments -/

/-- A slot byte names the slot in use with its number (05 R93). -/
theorem Block.slotArg_of_used {b : Block} {v : Fin 16} {vByte : Byte} (hv : vByte.toNat = v.val) (hused : (b.vessel v).state ≠ .free) :
    b.slotArg vByte = some v := by
  have named : (⟨vByte.toNat, hv ▸ v.isLt⟩ : Fin 16) = v := Fin.ext hv
  rw [Block.slotArg, dif_pos (hv ▸ v.isLt), named, if_neg hused]

/-- A number above 15 and a FREE slot name nothing (05 R93). -/
theorem Block.slotArg_eq_none {b : Block} {vByte : Byte}
    (h : 15 < vByte.toNat ∨ ∃ v : Fin 16, vByte.toNat = v.val ∧ (b.vessel v).state = .free) : b.slotArg vByte = none := by
  rcases h with h | ⟨v, hv, hfree⟩
  · exact dif_neg (by omega)
  · have named : (⟨vByte.toNat, hv ▸ v.isLt⟩ : Fin 16) = v := Fin.ext hv
    rw [Block.slotArg, dif_pos (hv ▸ v.isLt), named, if_pos hfree]

theorem sideArg_eq_some {x : Byte} {side : Side} : sideArg x = some side ↔ x.toNat = (match side with | .lower => 0 | .upper => 1) := by
  rw [sideArg]
  split
  next h => cases side <;> simp [h]
  next h => cases side <;> simp [h]
  next lower upper =>
    refine iff_of_false (by simp) ?_
    cases side
    · exact lower
    · exact upper

theorem directionArg_eq_none {x : Byte} (h : 1 < x.toNat) : directionArg x = none := by
  rw [directionArg]
  split
  · omega
  · omega
  · rfl

/-! ### A vessel record written twice -/

@[simp] theorem Block.setVessel_setVessel (b : Block) (v x y) : (b.setVessel v x).setVessel v y = b.setVessel v y := by
  simp [Block.setVessel]

/-! ### The rows of the toll office -/

/-- The row of a request of the toll office, taken now, is its owner's answer (11 R188, R190). -/
theorem exec_office {i : Instr} {s : State} {lk : Link} {code tag : Byte} {payload : List Byte} (hs : s.office lk)
    (hi : i.frame = some (lk, tag, code, payload)) (hp : permitted code .t = true := by decide) :
    exec i s = s.serves lk code tag payload (i.own s.toBlock) := by
  obtain ⟨hready, rfl⟩ := hs
  rw [exec_request hi, Block.request, if_pos hready]
  simp only [hp, if_true]
  rfl

/-- A request of the toll office that its owner refuses or answers without a payload (11 R188, R191). -/
theorem exec_office_plain {i : Instr} {s : State} {lk : Link} {code tag : Byte} {payload : List Byte} {o : OutcomeCode} {b : Block}
    (hs : s.office lk) (hi : i.frame = some (lk, tag, code, payload)) (ho : i.own s.toBlock = .plain o b)
    (hp : permitted code .t = true := by decide) : exec i s = s.answers lk code tag o .none b := by
  rw [exec_office hs hi hp, ho]; rfl

end Sys2Proof
end

section
/-! Bookings and calls: the acceptance of a chamber, the free slot, BOOK, CALL, UNCALL and DEFER (05 R84, R86, R88 to R93; 07 R124). -/
namespace Sys2Proof
open Machine

/-! ### The acceptance of a chamber (O32) -/

theorem Block.acceptance_eq (b : Block) (c : Fin 4) (x : Vessel) :
    b.acceptance c x =
      if ∃ v ∈ b.list c, (b.vessel v).direction ≠ x.direction then some .wrongDirection
      else if (b.config.chambers[c]).limit ≤ (b.list c).length then some .noRoom
      else if (b.config.chambers[c]).usable < ((b.list c).map fun v => (b.vessel v).length).sum + x.length then some .noRoom
      else none := by
  have mixed : (b.list c).any (fun v => (b.vessel v).direction != x.direction) = true ↔
      ∃ v ∈ b.list c, (b.vessel v).direction ≠ x.direction := by simp
  exact if_congr mixed rfl rfl

/-- Settles O32. -/
theorem acceptanceAndFreeSlot : Obligations.AcceptanceAndFreeSlot :=
  ⟨Block.acceptance_eq, fun _ _ => Block.freeSlot_eq_some, fun _ hn => ⟨rfl, Nat.sub_add_cancel hn⟩⟩

/-! ### BOOK (O31) -/

/-- An argument of BOOK out of its range (05 R89). -/
theorem ownBook_badArgument {registration : W32} {length : W16} {dByte cls cargo : Byte}
    (h : registration = 0 ∨ length.toNat < 50 ∨ 1500 < length.toNat ∨ 1 < dByte.toNat ∨ 15 < cls.toNat ∨ 7 < cargo.toNat)
    (lk : Link) (operator : W16) (b : Block) : ownBook lk registration length dByte operator cls cargo b = .plain .badArgument b := by
  rw [ownBook]
  cases hd : directionArg dByte with
  | none => rfl
  | some d =>
    have named : ¬ 1 < dByte.toNat := fun h => by simp [directionArg_eq_none h] at hd
    exact if_pos (by tauto)

/-- The checks of BOOK on the vessels and the queues, but the last (05 R89). -/
theorem Block.bookCheck_eq (b : Block) (registration : W32) (length : Nat) (d : Direction) :
    b.bookCheck registration length d =
      if ∃ v : Fin 16, (b.vessel v).state ≠ .free ∧ (b.vessel v).registration = registration then some .duplicateReg
      else if ∀ c ∈ b.chambersIn, (b.config.chambers[c]).usable < length then some .tooLong
      else if 8 ≤ b.reservations d.side then some .queueFull
      else if 4 ≤ b.tariff.queue.length then some .ratingBusy
      else none := by
  have registered : b.registered registration = true ↔
      ∃ v : Fin 16, (b.vessel v).state ≠ .free ∧ (b.vessel v).registration = registration := by
    simp [Block.registered, slotsAll_eq]
  have tooLong : b.tooLong length = true ↔ ∀ c ∈ b.chambersIn, (b.config.chambers[c]).usable < length := by simp [Block.tooLong]
  simp only [Block.bookCheck, registered, tooLong]
  rfl

/-- The row of BOOK with its arguments in range: what its checks refuse, else the free slot and what is written there (05 R89, R90). -/
theorem exec_book {s : State} {lk : Link} {registration : W32} {length : W16} {dByte cls cargo : Byte} {d : Direction} (hs : s.house lk)
    (hd : directionArg dByte = some d) (hreg : registration ≠ 0) (hmin : 50 ≤ length.toNat) (hmax : length.toNat ≤ 1500)
    (hcls : cls.toNat ≤ 15) (hcargo : cargo.toNat ≤ 7) (tag : Byte) (operator : W16) :
    exec (.book lk tag registration length dByte operator cls cargo) s =
      (s.bookCheck registration length.toNat d).elim
        (s.freeSlot.elim (s.answers lk 0x40 tag .tableFull .none s.toBlock) fun v =>
          s.answers lk 0x40 tag .done (.slot v)
            ((s.setVessel v (bookedVessel lk registration length.toNat d operator cls.toNat cargo.toNat s.clock)).queueRating v))
        (fun o => s.answers lk 0x40 tag o .none s.toBlock) := by
  have inRange : ¬ (registration = 0 ∨ length.toNat < 50 ∨ 1500 < length.toNat ∨ 15 < cls.toNat ∨ 7 < cargo.toNat) := by
    rintro (h | h | h | h | h)
    · exact hreg h
    all_goals omega
  rw [exec_house hs rfl]
  simp only [Instr.own, ownBook, hd, if_neg inRange]
  cases s.bookCheck registration length.toNat d
  · cases s.freeSlot <;> rfl
  · rfl

/-- Settles O31: the arguments out of range, then the checks one by one. -/
theorem book : Obligations.Book := by
  refine ⟨fun b side => ⟨by cases side <;> rfl, ⟨rfl, rfl⟩, ?_⟩, fun s lk tag registration length dByte operator cls cargo hs => ?_⟩
  · rw [Block.reservations, Block.bookedCount_eq]
    cases side <;> rfl
  · refine ⟨fun h => exec_house_plain hs rfl (ownBook_badArgument h ..), fun d hd hreg hmin hmax hcls hcargo => ?_⟩
    dsimp only
    rw [exec_book hs hd hreg hmin hmax hcls hcargo, Block.bookCheck_eq]
    iterate 4 refine elim_ite_some ?_
    cases s.freeSlot <;> rfl

/-! ### CALL, UNCALL and DEFER (O33) -/

section Called
variable {b : Block} {side : Side}

theorem Block.called_eq_some {v : Fin 16} :
    b.called side = some v ↔
      ∃ before after, b.queue side = before ++ v :: after ∧ (b.vessel v).state = .called ∧
        ∀ w ∈ before, (b.vessel w).state ≠ .called := by
  rw [Block.called, List.find?_eq_some_iff_append]
  constructor
  · rintro ⟨hcalled, before, after, hqueue, hbefore⟩
    exact ⟨before, after, hqueue, beq_iff_eq.1 hcalled, fun w hw => by simpa using hbefore w hw⟩
  · rintro ⟨before, after, hqueue, hcalled, hbefore⟩
    exact ⟨beq_iff_eq.2 hcalled, before, after, hqueue, fun w hw => by simpa using hbefore w hw⟩

theorem Block.called_eq_none : b.called side = none ↔ ∀ w ∈ b.queue side, (b.vessel w).state ≠ .called := by
  simp [Block.called]

end Called

/-- The rate hold: the rate FAILED, or resolved with its hold mark (05 R84). -/
theorem Vessel.rateHold_iff {x : Vessel} :
    x.rateHold = true ↔ x.rateStatus = .failed ∨ (x.rateStatus = .resolved ∧ ∃ r, x.rate = some r ∧ r.hold = true) := by
  rw [Vessel.rateHold]
  cases x.rateStatus <;> simp [Option.any_eq_true]

theorem Block.callCheck_eq (b : Block) (side : Side) (x : Vessel) :
    b.callCheck side x =
      if x.rateStatus = .pending then some .ratingPending
      else if x.officeHold = true ∨ x.rateHold = true then some .accountHold
      else b.acceptance (b.endChamber side) x := by
  simp only [Block.callCheck, Bool.or_eq_true]

section CallRows
variable {s : State} {lk : Link} {sideByte : Byte} {side : Side}

/-- The row of CALL: its checks on the side, then those on the head of the queue (05 R91). -/
theorem exec_call (hs : s.house lk) (hside : sideArg sideByte = some side) (tag : Byte) :
    exec (.call lk tag sideByte) s =
      if s.cond.condition ≠ .service then s.answers lk 0x41 tag .wrongCondition .none s.toBlock
      else if (s.sec (s.endSection side)).holder ≠ some lk then s.answers lk 0x41 tag .notHolder .none s.toBlock
      else if s.called side ≠ none then s.answers lk 0x41 tag .already .none s.toBlock
      else
        match s.queue side with
        | [] => s.answers lk 0x41 tag .ratingPending .none s.toBlock
        | v :: _ =>
          (s.callCheck side (s.vessel v)).elim
            (s.answers lk 0x41 tag .done .none (s.setVessel v { s.vessel v with state := .called }).refreshSignals)
            (fun o => s.answers lk 0x41 tag o .none s.toBlock) := by
  rw [exec_house hs rfl]
  simp only [Instr.own, ownCall, hside, Section.not_heldBy, Option.isSome_iff_ne_none, apply_ite (s.serves lk 0x41 tag [sideByte])]
  cases s.queue side with
  | nil => rfl
  | cons v rest =>
    cases h : s.callCheck side (s.vessel v) <;> simp only [h]
    all_goals rfl

/-- The row of UNCALL (05 R92). -/
theorem exec_uncall (hs : s.house lk) (hside : sideArg sideByte = some side) (tag : Byte) :
    exec (.uncall lk tag sideByte) s =
      if (s.sec (s.endSection side)).holder ≠ some lk then s.answers lk 0x42 tag .notHolder .none s.toBlock
      else
        match s.called side with
        | none => s.answers lk 0x42 tag .already .none s.toBlock
        | some v => s.answers lk 0x42 tag .done .none (s.setVessel v { s.vessel v with state := .waiting }).refreshSignals := by
  rw [exec_house hs rfl]
  simp only [Instr.own, ownUncall, hside, Section.not_heldBy, apply_ite (s.serves lk 0x42 tag [sideByte]), Block.endCall]
  cases s.called side <;> rfl

end CallRows

/-- Settles O33: what the checks read, the arguments out of range, then the three rows by the queue and the vessel they find. -/
theorem callUncallDefer : Obligations.CallUncallDefer := by
  refine ⟨fun b side v => ⟨Block.called_eq_some, Block.called_eq_none, by cases side <;> rfl, Vessel.rateHold_iff⟩,
    fun x side => sideArg_eq_some, fun s lk tag x hs => ⟨fun h => ⟨?_, ?_⟩, fun h => ?_⟩,
    fun s lk tag sideByte side hs hside => ⟨?_, ?_⟩, fun s lk tag vByte v hs hv => ?_⟩
  · exact exec_house_plain hs rfl (by simp only [Instr.own, ownCall, sideArg_eq_none h])
  · exact exec_house_plain hs rfl (by simp only [Instr.own, ownUncall, sideArg_eq_none h])
  · exact exec_house_plain hs rfl (by simp only [Instr.own, ownDefer, Block.slotArg_eq_none (.inl h)])
  · rw [exec_call hs hside]
    simp only [Block.callCheck_eq]
    cases s.queue side with
    | nil => rfl
    | cons v rest =>
      refine if_congr Iff.rfl rfl (if_congr Iff.rfl rfl (if_congr Iff.rfl rfl ?_))
      iterate 2 refine elim_ite_some ?_
      cases s.acceptance (s.endChamber side) (s.vessel v) <;> rfl
  · exact exec_uncall hs hside tag
  · dsimp only
    by_cases hfree : (s.vessel v).state = .free
    · rw [hfree]
      exact exec_house_plain hs rfl (by simp only [Instr.own, ownDefer, Block.slotArg_eq_none (.inr ⟨v, hv, hfree⟩)])
    · rw [exec_house hs rfl]
      simp only [Instr.own, ownDefer, Block.slotArg_of_used hv hfree]
      cases hstate : (s.vessel v).state
      case free => exact absurd hstate hfree
      case waiting => exact apply_ite ..
      all_goals rfl

end Sys2Proof
end

section
/-! ADVANCE: the gate a vessel crosses, the admission of a CALLED vessel, the move to the next chamber and out of the flight, and the refusals
in order (05 R94 to R97; 08 R144, R146, R149). -/
namespace Sys2Proof
open Machine

/-! ### The gate a vessel crosses -/

section Crossing
variable {b : Block} {x : Vessel} {c : Fin 4}

theorem Block.crossing_outside (hx : ∀ c, x.position ≠ .chamber c) :
    b.crossing x = { gate := b.endSection x.direction.side, dest := some (b.endChamber x.direction.side) } := by
  cases hpos : x.position with
  | chamber c => exact absurd hpos (hx c)
  | none => simp only [Block.crossing, hpos]
  | approach side => simp only [Block.crossing, hpos]

theorem Block.crossing_up (hpos : x.position = .chamber c) (hdir : x.direction = .up) :
    b.crossing x = { gate := c.succ, dest := if h : c.val + 1 < b.n.val then some ⟨c.val + 1, by omega⟩ else none } := by
  simp only [Block.crossing, hpos, hdir]

theorem Block.crossing_down (hpos : x.position = .chamber c) (hdir : x.direction = .down) :
    b.crossing x = { gate := c.castSucc, dest := if h : 0 < c.val then some ⟨c.val - 1, by omega⟩ else none } := by
  simp only [Block.crossing, hpos, hdir]

theorem Block.crossing_up_dest (hpos : x.position = .chamber c) (hdir : x.direction = .up) (d : Fin 4) :
    (b.crossing x).dest = some d ↔ d.val = c.val + 1 ∧ d.val < b.n.val := by
  rw [Block.crossing_up hpos hdir]
  simp only [Option.dite_none_right_eq_some, Option.some.injEq, Fin.ext_iff]
  constructor
  · rintro ⟨_, _⟩; omega
  · intro _; exact ⟨by omega, by omega⟩

theorem Block.crossing_down_dest (hpos : x.position = .chamber c) (hdir : x.direction = .down) (d : Fin 4) :
    (b.crossing x).dest = some d ↔ d.val + 1 = c.val := by
  rw [Block.crossing_down hpos hdir]
  simp only [Option.dite_none_right_eq_some, Option.some.injEq, Fin.ext_iff]
  constructor
  · rintro ⟨_, _⟩; omega
  · intro _; exact ⟨by omega, by omega⟩

/-- A vessel leaves its chamber for another one. -/
theorem Block.crossing_dest_ne {d : Fin 4} (hpos : x.position = .chamber c) (hd : (b.crossing x).dest = some d) : d ≠ c := by
  rintro rfl
  cases hdir : x.direction with
  | up => have := (Block.crossing_up_dest hpos hdir d).1 hd; omega
  | down => have := (Block.crossing_down_dest hpos hdir d).1 hd; omega

end Crossing

/-! ### The checks of ADVANCE (05 R94) -/

section Checks
variable {b : Block} {lk : Link} {v : Fin 16}

/-- A vessel that is not where its movement starts. -/
theorem Block.outOfOrder_of
    (h : (b.vessel v).state = .booked ∨ (b.vessel v).state = .waiting ∨
      ((b.vessel v).state = .inFlight ∧ ∀ c, (b.vessel v).position = .chamber c → (b.list c).head? ≠ some v)) : b.outOfOrder v = true := by
  rcases h with h | h | ⟨h, hhead⟩
  · simp only [Block.outOfOrder, h]
  · simp only [Block.outOfOrder, h]
  · cases hpos : (b.vessel v).position with
    | chamber c => simp only [Block.outOfOrder, h, hpos, bne_iff_ne]; exact hhead c hpos
    | none => simp only [Block.outOfOrder, h, hpos]
    | approach side => simp only [Block.outOfOrder, h, hpos]

theorem Block.advanceCheck_condition (h : b.cond.condition ≠ .service) : b.advanceCheck lk v = some .wrongCondition := if_pos h

theorem Block.advanceCheck_holder (hcond : b.cond.condition = .service) (h : (b.sec (b.crossing (b.vessel v)).gate).holder ≠ some lk) :
    b.advanceCheck lk v = some .notHolder := by
  simp only [Block.advanceCheck, Section.not_heldBy]
  rw [if_neg (not_not_intro hcond), if_pos h]

variable (hcond : b.cond.condition = .service) (hholder : (b.sec (b.crossing (b.vessel v)).gate).holder = some lk)
include hcond hholder

theorem Block.advanceCheck_outOfOrder (h : b.outOfOrder v = true) : b.advanceCheck lk v = some .outOfOrder := by
  simp only [Block.advanceCheck, Section.not_heldBy]
  rw [if_neg (not_not_intro hcond), if_neg (not_not_intro hholder), if_pos h]

/-- The checks of a CALLED vessel on the gate, its holds and rate, the chamber, and the meters. -/
theorem Block.advanceCheck_called (hstate : (b.vessel v).state = .called) :
    b.advanceCheck lk v =
      if (b.sec (b.crossing (b.vessel v)).gate).gate ≠ .opened then some .inProgress
      else if ((b.vessel v).officeHold = true ∨ (b.vessel v).rateHold = true) ∨ (b.vessel v).rateStatus ≠ .resolved then some .accountHold
      else
        ((b.crossing (b.vessel v)).dest.bind (fun c => b.acceptance c (b.vessel v))).or
          (if b.freeMeter = none then some .noMeter else none) := by
  have placed : ¬ b.outOfOrder v = true := by simp only [Block.outOfOrder, hstate]; decide
  simp only [Block.advanceCheck, Section.not_heldBy]
  rw [if_neg (not_not_intro hcond), if_neg (not_not_intro hholder), if_neg placed]
  simp only [hstate, beq_self_eq_true, Bool.true_and, Bool.or_eq_true, bne_iff_ne, Option.isNone_iff_eq_none]
  cases (b.crossing (b.vessel v)).dest.bind (fun c => b.acceptance c (b.vessel v)) <;> rfl

/-- The checks of a vessel at the head of its chamber's list on the gate and the next chamber. -/
theorem Block.advanceCheck_head {c : Fin 4} (hstate : (b.vessel v).state = .inFlight) (hpos : (b.vessel v).position = .chamber c)
    (hhead : (b.list c).head? = some v) :
    b.advanceCheck lk v =
      if (b.sec (b.crossing (b.vessel v)).gate).gate ≠ .opened then some .inProgress
      else (b.crossing (b.vessel v)).dest.bind (fun d => b.acceptance d (b.vessel v)) := by
  have placed : ¬ b.outOfOrder v = true := by simp [Block.outOfOrder, hstate, hpos, hhead]
  have moving : ((b.vessel v).state == .called) = false := by rw [hstate]; rfl
  simp only [Block.advanceCheck, Section.not_heldBy]
  rw [if_neg (not_not_intro hcond), if_neg (not_not_intro hholder), if_neg placed]
  simp only [moving, Bool.false_and, Bool.false_eq_true, if_false]
  cases (b.crossing (b.vessel v)).dest.bind (fun d => b.acceptance d (b.vessel v)) <;> rfl

end Checks

/-! ### What an ADVANCE that passes does -/

section Moves
variable {b : Block} {v : Fin 16}

/-- The meter found FREE starts to run for the vessel (08 R144). -/
theorem Block.assignMeter_of_free {m : Fin 8} (h : b.freeMeter = some m) :
    b.assignMeter v =
      (b.setVessel v { b.vessel v with meter := some m }).setAcct
        { b.acct with meters := b.acct.meters.set m { state := .running, minutes := 0, owner := some v } } := by
  simp only [Block.assignMeter, h]
  rfl

/-- Steps 1 to 6 of an admission (05 R95; 08 R144, R149). -/
theorem Block.enter_eq {r : Rate} {m : Fin 8} (hrate : (b.vessel v).rate = some r) (hmeter : b.freeMeter = some m) :
    b.enter v =
      (let x := b.vessel v
       let side := x.direction.side
       let c := b.endChamber side
       (((b.setQueue side ((b.queue side).erase v)).setList c (b.list c ++ [v])).setCond
          { b.cond with admissions := b.cond.admissions + 1 }).setVessel v
          { x with
            state := .inFlight, position := .chamber c, admission := some (b.cond.admissions + 1), admitted := some b.acct.clock,
            passageFee := passageFee r x.length, meter := some m } |>.setAcct
          { b.acct with meters := b.acct.meters.set m { state := .running, minutes := 0, owner := some v } }) := by
  have free {a : Block} (h : a.acct = b.acct) : a.freeMeter = some m := by
    rw [← hmeter]; simp only [Block.freeMeter, Block.meter, h]
  simp only [Block.enter]
  rw [Block.assignMeter_of_free (m := m)]
  · simp only [Block.setVessel_vessel, Block.setVessel_setVessel, hrate]
    rfl
  · exact free rfl

theorem Block.advanced_enter (hpos : ∀ c, (b.vessel v).position ≠ .chamber c) : b.advanced v = b.enter v := by
  rw [Block.advanced]
  split
  next c _ h _ => exact absurd h (hpos c)
  next c h _ => exact absurd h (hpos c)
  next => rfl

variable {src : Fin 4} {rest : List (Fin 16)} (hpos : (b.vessel v).position = .chamber src) (hlist : b.list src = v :: rest)
include hpos hlist

/-- The head of a list moved to the next chamber (05 R96). -/
theorem Block.advanced_moveOn {dest : Fin 4} (hdest : (b.crossing (b.vessel v)).dest = some dest) :
    b.advanced v =
      ((b.setList src rest).setList dest (b.list dest ++ [v])).setVessel v { b.vessel v with position := .chamber dest } := by
  simp only [Block.advanced, hpos, hdest, Block.moveOn, hlist, List.erase_cons_head,
    Block.setList_list_ne _ _ _ _ (Block.crossing_dest_ne hpos hdest)]

/-- The head of an end chamber's list leaves the flight, its meter STOPPING (05 R97, 08 R146). -/
theorem Block.advanced_leave {m : Fin 8} (hdest : (b.crossing (b.vessel v)).dest = none) (hmeter : (b.vessel v).meter = some m) :
    b.advanced v =
      (((b.setList src rest).setVessel v { b.vessel v with state := .cleared, position := .none, exited := some b.acct.clock }).setAcct
        { b.acct with meters := b.acct.meters.set m { b.acct.meters[m] with state := .stopping } }).raise (.vesselCleared v false) := by
  simp only [Block.advanced, hpos, hdest, Block.leave, hlist, List.erase_cons_head, Block.stopMeter, Block.setVessel_vessel, hmeter]
  rfl

end Moves

/-! ### The row of ADVANCE -/

section Row
variable {s : State} {lk : Link} {vByte : Byte} {v : Fin 16} (tag : Byte) (hs : s.house lk) (hv : vByte.toNat = v.val)
include hs hv

/-- An ADVANCE of a vessel that is neither FREE nor CLEARED: what its checks refuse, else its move. -/
theorem exec_advance (hused : (s.vessel v).state ≠ .free) (hin : (s.vessel v).state ≠ .cleared) :
    exec (.advance lk tag vByte) s =
      (s.advanceCheck lk v).elim (s.answers lk 0x44 tag .done .none (s.advanced v).refreshSignals)
        (fun o => s.answers lk 0x44 tag o .none s.toBlock) := by
  rw [exec_house hs rfl]
  simp only [Instr.own, ownAdvance, Block.slotArg_of_used hv hused, if_neg hin]
  cases s.advanceCheck lk v <;> rfl

end Row

/-- Settles O34: the meter by the search, the admission by its checks and its steps. -/
theorem advanceAdmits : Obligations.AdvanceAdmits := by
  refine ⟨fun b m => Block.freeMeter_eq_some, ?_⟩
  intro s lk tag vByte v r m hs hv
  dsimp only
  intro hstate hpos hcond hholder hgate hoffice hhold hresolved hrate haccepts hmeter
  have outside (c) : (s.vessel v).position ≠ .chamber c := by rw [hpos]; nofun
  have way := Block.crossing_outside (b := s.toBlock) outside
  have passed : s.advanceCheck lk v = none := by
    rw [Block.advanceCheck_called hcond (by rw [way]; exact hholder) hstate, way, if_neg (not_not_intro hgate),
      if_neg (by simp [hoffice, hhold, hresolved]), Option.bind_some, haccepts, Option.none_or, if_neg (by simp [hmeter])]
  rw [exec_advance tag hs hv (by simp [hstate]) (by simp [hstate]), passed, Option.elim, Block.advanced_enter outside,
    Block.enter_eq hrate hmeter]

/-- Settles O35: the crossing by position and direction, the two moves of a head, and the refusals check by check. -/
theorem advanceMovesAndLeaves : Obligations.AdvanceMovesAndLeaves := by
  refine ⟨fun s lk tag vByte hs h => ?_, fun b x hx => ?_, fun b x c hpos hc => ⟨fun hdir => ⟨?_, ?_⟩, fun hdir => ⟨?_, ?_⟩⟩,
    fun s lk tag vByte v src rest hs hv => ?_, fun s lk tag vByte v hs hv => ?_⟩
  · exact exec_house_plain hs rfl (by simp only [Instr.own, ownAdvance, Block.slotArg_eq_none (.inl h)])
  · rw [Block.crossing_outside hx]
    cases x.direction <;> exact ⟨rfl, rfl⟩
  · rw [Block.crossing_up hpos hdir]; rfl
  · exact Block.crossing_up_dest hpos hdir
  · rw [Block.crossing_down hpos hdir]; rfl
  · exact Block.crossing_down_dest hpos hdir
  · dsimp only
    intro hstate hpos hlist hcond hholder hgate
    have checks : s.advanceCheck lk v = (s.crossing (s.vessel v)).dest.bind (fun d => s.acceptance d (s.vessel v)) := by
      rw [Block.advanceCheck_head hcond hholder hstate hpos (by rw [hlist]; rfl), if_neg (not_not_intro hgate)]
    rw [exec_advance tag hs hv (by simp [hstate]) (by simp [hstate]), checks]
    refine ⟨fun dest hdest haccepts => ?_, fun m hdest hmeter => ?_⟩
    · rw [hdest, Option.bind_some, haccepts, Option.elim, Block.advanced_moveOn hpos hlist hdest]
    · rw [hdest, Option.bind_none, Option.elim, Block.advanced_leave hpos hlist hdest hmeter]
  · dsimp only
    refine ⟨fun hstate => ?_, fun hstate => ?_, fun hused hin => ?_⟩
    · exact exec_house_plain hs rfl (by simp only [Instr.own, ownAdvance, Block.slotArg_eq_none (.inr ⟨v, hv, hstate⟩)])
    · have named : s.slotArg vByte = some v := Block.slotArg_of_used hv (by simp [hstate])
      exact exec_house_plain hs rfl (by simp only [Instr.own, ownAdvance, named, if_pos hstate])
    have of_check {o : OutcomeCode} (h : s.advanceCheck lk v = some o) :
        exec (.advance lk tag vByte) s = s.answers lk 0x44 tag o .none s.toBlock := by
      rw [exec_advance tag hs hv hused hin, h, Option.elim]
    refine ⟨fun hcond => of_check (Block.advanceCheck_condition hcond), fun hcond =>
      ⟨fun hholder => of_check (Block.advanceCheck_holder hcond hholder), fun hholder => ⟨fun h => of_check ?_,
        fun hstate hgate => of_check ?_, fun hstate hgate hhold => of_check ?_, fun hstate hgate hoffice hhold hresolved => ?_,
        fun c hstate hpos hhead => ⟨fun hgate => of_check ?_, fun hgate dest o hdest haccepts => of_check ?_⟩⟩⟩⟩
    · exact Block.advanceCheck_outOfOrder hcond hholder (Block.outOfOrder_of h)
    · rw [Block.advanceCheck_called hcond hholder hstate, if_pos hgate]
    · rw [Block.advanceCheck_called hcond hholder hstate, if_neg (not_not_intro hgate), if_pos (.inl hhold)]
    · have passed : s.advanceCheck lk v =
          ((s.crossing (s.vessel v)).dest.bind fun d => s.acceptance d (s.vessel v)).or
            (if s.freeMeter = none then some .noMeter else none) := by
        rw [Block.advanceCheck_called hcond hholder hstate, if_neg (not_not_intro hgate), if_neg (by simp [hoffice, hhold, hresolved])]
      refine ⟨fun dest o hdest haccepts => of_check ?_, fun haccepts hmeter => of_check ?_⟩
      · rw [passed, hdest, Option.bind_some, haccepts, Option.some_or]
      · rw [passed, Option.bind_eq_none_iff.2 haccepts, Option.none_or, if_pos hmeter]
    · rw [Block.advanceCheck_head hcond hholder hstate hpos hhead, if_pos hgate]
    · rw [Block.advanceCheck_head hcond hholder hstate hpos hhead, if_neg (not_not_intro hgate), hdest, Option.bind_some, haccepts]

end Sys2Proof
end

section
/-! WITHDRAW, HOLD, UNHOLD and RERATE: what they do to the vessel, the queues, the walk and the account (05 R99 to R101; 07 R122, R138; 09 R157,
R158). -/
namespace Sys2Proof
open Machine

/-! ### Leaving the rating queue (07 R138) -/

section LeaveRating
variable {b : Block} {v : Fin 16} {w : Walk}

/-- The walk, if there is one, is of another vessel. -/
theorem Block.leaveRating_other (h : ∀ w, ¬ (b.tariff.engine = .walking ∧ b.tariff.walk = some w ∧ w.slot = v)) :
    b.leaveRating v = b.setTariff { b.tariff with queue := b.tariff.queue.erase v } := by
  simp only [Block.leaveRating, Block.unqueueRating, Block.setTariff_tariff_self]
  split
  next w hengine hwalk => rw [if_neg fun hslot => h w ⟨hengine, hwalk, hslot⟩]
  next => rfl

variable (hengine : b.tariff.engine = .walking) (hwalk : b.tariff.walk = some w) (hslot : w.slot = v)
include hengine hwalk hslot

/-- The vessel's own walk waits for the store: it is discarded. -/
theorem Block.leaveRating_waiting (hw : w.inAccess = false) :
    b.leaveRating v = b.setTariff { b.tariff with queue := b.tariff.queue.erase v, walk := none, engine := .idle } := by
  simp only [Block.leaveRating, Block.unqueueRating, Block.setTariff_tariff_self, hengine, hwalk, hslot, hw, if_true, Bool.false_eq_true,
    if_false]
  rfl

/-- The vessel's own walk has its access in progress: it is abandoned. -/
theorem Block.leaveRating_inAccess (hw : w.inAccess = true) :
    b.leaveRating v = b.setTariff { b.tariff with queue := b.tariff.queue.erase v, engine := .abandoning } := by
  simp only [Block.leaveRating, Block.unqueueRating, Block.setTariff_tariff_self, hengine, hwalk, hslot, hw, if_true]
  rfl

/-- While an access is in progress the vessel's leaving frees no store to grant (07 R122). -/
theorem Block.regrant_leaveRating (h : w.inAccess = true ∨ ∃ a, b.tariff.access = some a ∧ a.inAccess = true) :
    (b.leaveRating v).regrant = b.leaveRating v := by
  have busy : (b.leaveRating v).tariff.busy = true := by
    by_cases hw : w.inAccess = true
    · simp [Block.leaveRating_inAccess hengine hwalk hslot hw, Tariff.busy, hwalk, hw]
    · obtain ⟨a, haccess, ha⟩ := h.resolve_left hw
      simp [Block.leaveRating_waiting hengine hwalk hslot (by simpa using hw), Tariff.busy, haccess, ha]
  rw [Block.regrant, Tariff.grant, if_pos busy]
  rfl

end LeaveRating

/-! ### The requests (O36) -/

/-- A withdrawal, record by record (05 R99; 09 R157, R158). -/
theorem Block.withdrawn_eq (b : Block) (v : Fin 16) :
    b.withdrawn v =
      (let x := b.vessel v
       let side := x.direction.side
       let b1 := b.leaveRating v
       let b2 := (b1.setQueue side ((b1.queue side).erase v)).setVessel v { x with state := .cleared, withdrawn := true, position := .none }
       ((b2.setAcct { b.acct with closing := b.acct.closing ++ [v] }).raise (.vesselCleared v true)).drain.refreshSignals) := by
  simp only [Block.withdrawn, Block.ready, Block.setVessel_acct, Block.setQueue_acct, (b.leaveRating_keeps v).acct]

/-- The slot requests that name no vessel in use (05 R93, R99 to R101). -/
theorem own_slot_badArgument {b : Block} {vByte : Byte} (h : b.slotArg vByte = none) :
    ownWithdraw vByte b = .plain .badArgument b ∧ ownHold vByte b = .plain .badArgument b ∧
    ownUnhold vByte b = .plain .badArgument b ∧ ownRerate vByte b = .plain .badArgument b := by
  simp only [ownWithdraw, ownHold, ownUnhold, ownRerate, h, and_self]

/-- Settles O36: the rating queue, the slot bytes that name nothing, then row by row. -/
theorem withdrawHoldUnholdRerate : Obligations.WithdrawHoldUnholdRerate := by
  refine ⟨fun b v => ⟨Block.leaveRating_other, fun w ⟨hengine, hwalk, hslot⟩ => Block.leaveRating_waiting hengine hwalk hslot,
      fun w ⟨hengine, hwalk, hslot⟩ => Block.leaveRating_inAccess hengine hwalk hslot,
      fun w ⟨hengine, hwalk, hslot⟩ => Block.regrant_leaveRating hengine hwalk hslot⟩,
    fun s lk tag vByte => ⟨fun hs h => ?_, fun hs h => ?_⟩, fun s lk tag vByte v hs hv => ?_, fun s lk tag vByte v hs hv hused => ?_⟩
  · obtain ⟨withdraw, -⟩ := own_slot_badArgument (Block.slotArg_eq_none (.inl h))
    exact exec_house_plain hs rfl withdraw
  · obtain ⟨-, hold, unhold, rerate⟩ := own_slot_badArgument (Block.slotArg_eq_none h)
    exact ⟨exec_office_plain hs rfl hold, exec_office_plain hs rfl unhold, exec_office_plain hs rfl rerate⟩
  · dsimp only
    by_cases hfree : (s.vessel v).state = .free
    · obtain ⟨withdraw, -⟩ := own_slot_badArgument (Block.slotArg_eq_none (.inr ⟨v, hv, hfree⟩))
      rw [hfree]
      exact exec_house_plain hs rfl withdraw
    · rw [exec_house hs rfl]
      simp only [Instr.own, ownWithdraw, Block.slotArg_of_used hv hfree, Block.withdrawn_eq]
      cases hstate : (s.vessel v).state
      case free => exact absurd hstate hfree
      all_goals rfl
  · have named := Block.slotArg_of_used hv hused
    refine ⟨?_, ?_, ?_⟩
    · rw [exec_office hs rfl]
      simp only [Instr.own, ownHold, named, apply_ite (s.serves lk 0x46 tag [vByte])]
      rfl
    · rw [exec_office hs rfl]
      simp only [Instr.own, ownUnhold, named, apply_ite (s.serves lk 0x47 tag [vByte])]
      rfl
    · rw [exec_office hs rfl]
      simp only [Instr.own, ownRerate, named]
      cases hstate : (s.vessel v).state
      case booked | waiting =>
        simp only [apply_ite (s.serves lk 0x48 tag [vByte])]
        rfl
      all_goals rfl

end Sys2Proof
end

section
/-! RATING_HEAD_TAKEN: the window, the cache and the start of a walk, and the delivery of a rate (05 R85; 07 R123 to R125, R130 to R132). -/
namespace Sys2Proof
open Machine

/-! ### What the head of the rating queue is judged by (O42) -/

/-- The first way of a set that holds a key (07 R131, R132). -/
theorem CacheSet.find_eq_some {c : CacheSet} {k : Key} {w : Fin 4} :
    c.find k = some w ↔ (∃ e, c.ways[w] = some e ∧ e.key = k) ∧ ∀ u : Fin 4, u < w → ¬ ∃ e, c.ways[u] = some e ∧ e.key = k := by
  rw [CacheSet.find, show waysAll = List.finRange 4 from rfl, find?_finRange_eq_some]
  simp only [← Bool.not_eq_true, Option.any_eq_true, beq_iff_eq]

theorem CacheSet.find_eq_none {c : CacheSet} {k : Key} :
    c.find k = none ↔ ∀ w : Fin 4, ¬ ∃ e, c.ways[w] = some e ∧ e.key = k := by
  rw [CacheSet.find, show waysAll = List.finRange 4 from rfl, List.find?_eq_none]
  simp only [List.mem_finRange, true_imp_iff, Option.any_eq_true, beq_iff_eq]

theorem Window.matchesOp_iff {w : Window} {operator : W16} :
    w.matchesOp operator = true ↔ w.enable = true ∧ (operator ^^^ w.base) &&& ~~~w.mask = 0 := by
  simp [Window.matchesOp]

/-! ### The head of the rating queue -/

section HeadTaken
variable {b : Block} {v : Fin 16} {rest : List (Fin 16)}

theorem Block.headTaken_idle (h : b.tariff.engine ≠ .idle ∨ b.tariff.queue = []) : b.headTaken = b := by
  rw [Block.headTaken]
  split
  next v rest hengine hqueue => simp [hengine, hqueue] at h
  next => rfl

/-- The vessel's operator falls in one of the two windows (07 R123). -/
def Block.windowed (b : Block) (v : Fin 16) : Prop :=
  (b.tariff.windows[(0 : Fin 2)]).matchesOp (b.vessel v).operator = true ∨ (b.tariff.windows[(1 : Fin 2)]).matchesOp (b.vessel v).operator = true

variable (hengine : b.tariff.engine = .idle) (hqueue : b.tariff.queue = v :: rest)
include hengine hqueue

theorem Block.headTaken_window (h : b.windowed v) : b.headTaken = b.deliver v (.ok windowRate) := by
  simp only [Block.headTaken, hengine, hqueue]
  exact if_pos (by simpa [Block.windowed] using h)

theorem Block.headTaken_hit (h : ¬ b.windowed v) {w : Fin 4} {e : CacheEntry}
    (hfind : (b.tariff.cache[(b.vessel v).key.set]).find (b.vessel v).key = some w)
    (hway : (b.tariff.cache[(b.vessel v).key.set]).ways[w] = some e) :
    b.headTaken =
      (b.setTariff
        { b.tariff with
          cache := b.tariff.cache.set (b.vessel v).key.set ((b.tariff.cache[(b.vessel v).key.set]).touch w) }).deliver v (.ok e.rate) := by
  simp only [Block.headTaken, hengine, hqueue]
  rw [if_neg (by simpa [Block.windowed] using h)]
  simp only [hfind, hway]

theorem Block.headTaken_miss (h : ¬ b.windowed v)
    (hfind : (b.tariff.cache[(b.vessel v).key.set]).find (b.vessel v).key = none) :
    b.headTaken = b.startWalk v (b.vessel v).key := by
  simp only [Block.headTaken, hengine, hqueue]
  rw [if_neg (by simpa [Block.windowed] using h)]
  simp only [hfind]

end HeadTaken

theorem exec_ratingHeadTaken (s : State) : exec .ratingHeadTaken s = s.becomes s.headTaken := rfl

/-- Settles O42: the window and the way by what they match, the row by the way its head is judged, and the delivery by the vessel's state. -/
theorem ratingHeadTaken : Obligations.RatingHeadTaken := by
  refine ⟨⟨rfl, fun c k => ⟨rfl, fun w => CacheSet.find_eq_some, CacheSet.find_eq_none⟩⟩, fun s => ⟨fun h => ?_, ?_⟩,
    fun b v result => ?_⟩
  · rw [exec_ratingHeadTaken, Block.headTaken_idle h]; rfl
  · intro v rest hengine hqueue x key matched c
    have windowed : s.windowed v ↔ matched s.tariff.windows[0] ∨ matched s.tariff.windows[1] :=
      or_congr Window.matchesOp_iff Window.matchesOp_iff
    rw [exec_ratingHeadTaken]
    refine ⟨fun h => ?_, fun h0 h1 => ⟨fun w e hfind hway => ?_, fun hfind => ?_⟩⟩
    · rw [Block.headTaken_window hengine hqueue (windowed.2 h)]
    · rw [Block.headTaken_hit hengine hqueue (fun h => (windowed.1 h).elim h0 h1) hfind hway]; rfl
    · rw [Block.headTaken_miss hengine hqueue (fun h => (windowed.1 h).elim h0 h1) hfind]
      exact apply_ite s.becomes ..
  · cases result <;> exact apply_ite (fun a : Block => a.raise _) ..

end Sys2Proof
end

section
/-! The signals: the aspects allowed in MANUAL, a change of aspect and its lamps, the derivation in AUTO, what an event leaves shown, and the
requests SET SIGNAL MODE and SET ASPECT (06 R106 to R113, R116; 13 R203). -/
namespace Sys2Proof
open Machine

/-! ### The aspects allowed in MANUAL (06 R109, R110) -/

section ManualAllowed
variable {b : Block} {side : Side}

theorem Block.manualAllowed_stop : b.manualAllowed side .stop = true := rfl

theorem Block.manualAllowed_closed : b.manualAllowed side .closed = true ↔ b.cond.condition ≠ .stopped := bne_iff_ne

/-- PREPARE in MANUAL needs what PROCEED needs (06 R109; the note of R111). -/
theorem Block.manualAllowed_entering {a : Aspect} (ha : a = .prepare ∨ a = .proceed) :
    b.manualAllowed side a = true ↔
      b.cond.condition = .service ∧ b.endGate side = .opened ∧ (b.signal side).redState = .proven := by
  rcases ha with rfl | rfl <;> simp only [Block.manualAllowed, Bool.and_eq_true, beq_iff_eq, and_assoc]

end ManualAllowed

/-! ### A change of aspect (06 R112, R113) -/

theorem Aspect.redSteady_iff {a : Aspect} : a.redSteady = true ↔ a = .stop ∨ a = .prepare := by cases a <;> decide

theorem Aspect.greenSteady_iff {a : Aspect} : a.greenSteady = true ↔ a = .prepare ∨ a = .proceed := by cases a <;> decide

section Relit
variable {before after : Bool} (stage : LampStage) (count : Nat)

/-- A lamp that stays lit steadily keeps its stage and count (06 R112). -/
theorem LampStage.relit_stays (hafter : after = true) (hbefore : before = true) : LampStage.relit before after stage count = (stage, count) := by
  rw [LampStage.relit, if_pos hafter, if_pos hbefore]

/-- A lamp that becomes lit steadily has four ticks to settle (06 R112). -/
theorem LampStage.relit_lights (hafter : after = true) (hbefore : ¬ before = true) :
    LampStage.relit before after stage count = (.settling, 4) := by
  rw [LampStage.relit, if_pos hafter, if_neg hbefore]; rfl

/-- A lamp that is not lit steadily is DARK (06 R112). -/
theorem LampStage.relit_dark (hafter : ¬ after = true) : LampStage.relit before after stage count = (.dark, 0) := by
  rw [LampStage.relit, if_neg hafter]

end Relit

section Change
variable (x : Signal) {a : Aspect}

/-- The flashing of CLOSED starts with its first cycle unjudged and no proof (06 R113). -/
theorem Signal.change_closed :
    x.change .closed =
      { x with
        aspect := .closed, redStage := .flashing, redSettle := 0, greenStage := .dark, greenSettle := 0, proof := false, firstCycle := true } :=
  rfl

/-- The marks of the flash cycle are left as they stand (06 R113). -/
theorem Signal.change_marks (ha : a ≠ .closed) : (x.change a).proof = x.proof ∧ (x.change a).firstCycle = x.firstCycle :=
  ⟨if_neg ha, if_neg ha⟩

/-- The red lamp of an aspect other than CLOSED is relit or darkened (06 R112). -/
theorem Signal.change_red (ha : a ≠ .closed) :
    ((x.change a).redStage, (x.change a).redSettle) = LampStage.relit x.aspect.redSteady a.redSteady x.redStage x.redSettle :=
  Prod.ext (if_neg ha) rfl

/-- So is the green lamp of every aspect (06 R112). -/
theorem Signal.change_green :
    ((x.change a).greenStage, (x.change a).greenSettle) =
      LampStage.relit x.aspect.greenSteady a.greenSteady x.greenStage x.greenSettle := rfl

theorem Signal.change_red_stays (ha : a = .stop ∨ a = .prepare) (hx : x.aspect = .stop ∨ x.aspect = .prepare) :
    (x.change a).redStage = x.redStage ∧ (x.change a).redSettle = x.redSettle := by
  rw [← Prod.mk_inj, Signal.change_red x (by rintro rfl; simp at ha)]
  exact LampStage.relit_stays _ _ (Aspect.redSteady_iff.2 ha) (Aspect.redSteady_iff.2 hx)

theorem Signal.change_red_lights (ha : a = .stop ∨ a = .prepare) (hx : ¬ (x.aspect = .stop ∨ x.aspect = .prepare)) :
    (x.change a).redStage = .settling ∧ (x.change a).redSettle = 4 := by
  rw [← Prod.mk_inj, Signal.change_red x (by rintro rfl; simp at ha)]
  exact LampStage.relit_lights _ _ (Aspect.redSteady_iff.2 ha) (mt Aspect.redSteady_iff.1 hx)

theorem Signal.change_red_proceed : (x.change .proceed).redStage = .dark ∧ (x.change .proceed).redSettle = 0 := ⟨rfl, rfl⟩

theorem Signal.change_green_stays (ha : a = .prepare ∨ a = .proceed) (hx : x.aspect = .prepare ∨ x.aspect = .proceed) :
    (x.change a).greenStage = x.greenStage ∧ (x.change a).greenSettle = x.greenSettle := by
  rw [← Prod.mk_inj, Signal.change_green]
  exact LampStage.relit_stays _ _ (Aspect.greenSteady_iff.2 ha) (Aspect.greenSteady_iff.2 hx)

theorem Signal.change_green_lights (ha : a = .prepare ∨ a = .proceed) (hx : ¬ (x.aspect = .prepare ∨ x.aspect = .proceed)) :
    (x.change a).greenStage = .settling ∧ (x.change a).greenSettle = 4 := by
  rw [← Prod.mk_inj, Signal.change_green]
  exact LampStage.relit_lights _ _ (Aspect.greenSteady_iff.2 ha) (mt Aspect.greenSteady_iff.1 hx)

theorem Signal.change_green_dark (ha : ¬ (a = .prepare ∨ a = .proceed)) : (x.change a).greenStage = .dark ∧ (x.change a).greenSettle = 0 := by
  rw [← Prod.mk_inj, Signal.change_green]
  exact LampStage.relit_dark _ _ (mt Aspect.greenSteady_iff.1 ha)

end Change

/-! ### The derivation in AUTO (06 R108, R116) -/

section Derive
variable {b : Block} {side : Side}

theorem Block.inBand_iff : b.inBand side = true ↔ b.reading (.band side) = some true := beq_iff_eq

/-- The end chamber accepts the called vessel (05 R88; 06 R107). -/
theorem Block.calledAccepted_iff :
    b.calledAccepted side = true ↔ ∃ v, b.called side = some v ∧ b.acceptance (b.endChamber side) (b.vessel v) = none := by
  simp only [Block.calledAccepted, Option.any_eq_true, Option.isNone_iff_eq_none]

theorem Block.derive_setup (h : b.cond.condition = .setup) : b.derive side = (.closed, .condition) := by
  simp only [Block.derive, h]

theorem Block.derive_stopped (h : b.cond.condition = .stopped) : b.derive side = (.stop, .condition) := by
  simp only [Block.derive, h]

/-- The rows of SERVICE: what R116 lists, in its order (log 36). -/
theorem Block.derive_service (h : b.cond.condition = .service) :
    b.derive side =
      if b.called side = none then (.stop, .noVesselCalled)
      else if b.endGate side = .opening then (.prepare, .requirementsMet)
      else if b.endGate side ≠ .opened then (.stop, .gateNotOpen)
      else if b.reading (.band side) ≠ some true then (.stop, .reachOut)
      else if (b.signal side).redState ≠ .proven then (.stop, .redFailed)
      else if ¬ b.calledAccepted side = true then (.stop, .notAccepting)
      else (.proceed, .requirementsMet) := by
  simp only [Block.derive, h, Option.isNone_iff_eq_none, Bool.not_eq_true', ← Bool.not_eq_true, Block.inBand_iff, ne_eq]

/-- PROCEED needs every requirement, the call among them: without one no vessel is accepted (06 R108). -/
theorem Block.derive_service_aspect (h : b.cond.condition = .service) :
    (b.derive side).1 =
      if b.endGate side = .opened ∧ b.reading (.band side) = some true ∧ (b.signal side).redState = .proven ∧
          b.calledAccepted side = true then .proceed
      else if b.called side ≠ none ∧ b.endGate side = .opening then .prepare else .stop := by
  rw [Block.derive_service h]
  by_cases hcalled : b.called side = none
  · have refused : ¬ b.calledAccepted side = true := by simp [Block.calledAccepted, hcalled]
    simp [hcalled, refused]
  by_cases hopening : b.endGate side = .opening
  · simp [hcalled, hopening]
  by_cases hgate : b.endGate side = .opened
  case neg => simp [hcalled, hopening, hgate]
  by_cases hband : b.reading (.band side) = some true
  case neg => simp [hcalled, hgate, hband]
  by_cases hred : (b.signal side).redState = .proven
  case neg => simp [hcalled, hgate, hband, hred]
  cases haccepted : b.calledAccepted side <;> simp [hcalled, hgate, hband, hred]

end Derive

/-- Settles O37: what MANUAL allows, what a change of aspect does to each lamp, the derivation by condition, and a signal after an event. -/
theorem aspectsOfASignal : Obligations.AspectsOfASignal := by
  refine ⟨fun b side => ⟨by cases side <;> rfl, Block.manualAllowed_stop, Block.manualAllowed_closed, fun a => Block.manualAllowed_entering⟩,
    fun x a => ⟨?closed, x.change_marks, x.change_red_stays, x.change_red_lights, ?proceed, x.change_green_stays, x.change_green_lights,
      x.change_green_dark, rfl, rfl, rfl, rfl, rfl⟩,
    ⟨fun b side => ?aspect, fun b side => ?reason, fun on => ⟨rfl, rfl, rfl, rfl⟩⟩,
    fun b side => ⟨rfl, rfl, fun a => rfl, fun hdue => if_pos hdue, fun hdue => ⟨if_neg hdue, rfl⟩, rfl⟩⟩
  case closed => rintro rfl; rw [x.change_closed]; exact ⟨rfl, rfl, rfl, rfl⟩
  case proceed => rintro rfl; exact x.change_red_proceed
  case aspect =>
    cases h : b.cond.condition with
    | setup => rw [Block.derive_setup h]
    | stopped => rw [Block.derive_stopped h]
    | service =>
      rw [Block.derive_service_aspect h]
      exact if_congr (by rw [Block.calledAccepted_iff]) rfl rfl
  case reason =>
    cases h : b.cond.condition with
    | setup => rw [Block.derive_setup h]; rfl
    | stopped => rw [Block.derive_stopped h]; rfl
    | service =>
      simp only [Block.derive_service h, apply_ite Prod.snd, Block.calledAccepted_iff]
      rw [if_neg (not_not_intro rfl)]

/-! ### The arguments of the requests (13 R203) -/

section Arguments
variable {x : Byte}

theorem modeArg_eq_some {mode : Mode} : modeArg x = some mode ↔ x.toNat = (match mode with | .auto => 0 | .manual => 1) := by
  rw [modeArg]
  split
  next h => cases mode <;> simp [h]
  next h => cases mode <;> simp [h]
  next auto manual =>
    refine iff_of_false (by simp) ?_
    cases mode
    · exact auto
    · exact manual

theorem aspectArg_eq_some {a : Aspect} :
    aspectArg x = some a ↔ x.toNat = (match a with | .closed => 0 | .stop => 1 | .prepare => 2 | .proceed => 3) := by
  rw [aspectArg]
  split
  next h => cases a <;> simp [h]
  next h => cases a <;> simp [h]
  next h => cases a <;> simp [h]
  next h => cases a <;> simp [h]
  next closed stop prepare proceed =>
    refine iff_of_false (by simp) ?_
    cases a
    · exact closed
    · exact stop
    · exact prepare
    · exact proceed

theorem modeArg_eq_none (h : 1 < x.toNat) : modeArg x = none := by
  rw [modeArg]
  split
  · omega
  · omega
  · rfl

theorem aspectArg_eq_none (h : 3 < x.toNat) : aspectArg x = none := by
  rw [aspectArg]
  split
  · omega
  · omega
  · omega
  · omega
  · rfl

theorem exists_modeArg (h : x.toNat ≤ 1) : ∃ mode, modeArg x = some mode := by
  obtain h | h : x.toNat = 0 ∨ x.toNat = 1 := by omega
  · exact ⟨.auto, modeArg_eq_some.2 h⟩
  · exact ⟨.manual, modeArg_eq_some.2 h⟩

theorem exists_aspectArg (h : x.toNat ≤ 3) : ∃ a, aspectArg x = some a := by
  obtain h | h | h | h : x.toNat = 0 ∨ x.toNat = 1 ∨ x.toNat = 2 ∨ x.toNat = 3 := by omega
  · exact ⟨.closed, aspectArg_eq_some.2 h⟩
  · exact ⟨.stop, aspectArg_eq_some.2 h⟩
  · exact ⟨.prepare, aspectArg_eq_some.2 h⟩
  · exact ⟨.proceed, aspectArg_eq_some.2 h⟩

end Arguments

/-! ### The rows of SET SIGNAL MODE and SET ASPECT (O38) -/

section OutOfList
variable {lk : Link} {sideByte byte : Byte} {b : Block}

/-- SET SIGNAL MODE with a side or a mode out of its list (06 R110). -/
theorem ownSetSignalMode_badArgument (h : 1 < sideByte.toNat ∨ 1 < byte.toNat) :
    ownSetSignalMode lk sideByte byte b = .plain .badArgument b := by
  rw [ownSetSignalMode]
  rcases h with h | h
  · rw [sideArg_eq_none h]
  · rw [modeArg_eq_none h]; cases sideArg sideByte <;> rfl

/-- SET ASPECT with a side or an aspect out of its list (06 R111). -/
theorem ownSetAspect_badArgument (h : 1 < sideByte.toNat ∨ 3 < byte.toNat) :
    ownSetAspect lk sideByte byte b = .plain .badArgument b := by
  rw [ownSetAspect]
  rcases h with h | h
  · rw [sideArg_eq_none h]
  · rw [aspectArg_eq_none h]; cases sideArg sideByte <;> rfl

end OutOfList

/-- The further checks of SET ASPECT in MANUAL, as one chain for every aspect (06 R111). -/
theorem Block.setAspectCheck_eq (b : Block) (side : Side) (a : Aspect) :
    b.setAspectCheck side a =
      if a = .closed ∧ b.cond.condition = .stopped then some .wrongCondition
      else if (a = .prepare ∨ a = .proceed) ∧ b.cond.condition ≠ .service then some .wrongCondition
      else if (a = .prepare ∨ a = .proceed) ∧ b.endGate side ≠ .opened then some .inProgress
      else if (a = .prepare ∨ a = .proceed) ∧ (b.signal side).redState ≠ .proven then some .lampFail
      else none := by
  cases a <;> simp [Block.setAspectCheck]

/-- The aspect that a signal shows on entering a mode: derived in AUTO, its preset in MANUAL where that is allowed (06 R110). -/
def Block.enteredAspect (b : Block) (side : Side) (mode : Mode) (preset : Aspect) : Aspect :=
  match mode with
  | .auto => (b.derive side).1
  | .manual => if b.manualAllowed side preset then preset else .stop

section SignalRows
variable {s : State} {lk : Link} {sideByte byte : Byte} {side : Side}

/-- The row of SET SIGNAL MODE with its arguments named (06 R110). -/
theorem exec_setSignalMode (hs : s.house lk) (hside : sideArg sideByte = some side) {mode : Mode} (hmode : modeArg byte = some mode)
    (tag : Byte) :
    exec (.setSignalMode lk tag sideByte byte) s =
      if (s.sec (s.endSection side)).holder ≠ some lk then s.answers lk 0x50 tag .notHolder .none s.toBlock
      else if (s.signal side).mode = mode then s.answers lk 0x50 tag .already .none s.toBlock
      else
        let entered := s.setSignal side { s.signal side with mode := mode }
        let shown := entered.enteredAspect side mode (s.signal side).preset
        s.answers lk 0x50 tag .done (.aspect shown) (entered.showAspect side shown) := by
  rw [exec_house hs rfl]
  simp only [Instr.own, ownSetSignalMode, hside, hmode, Section.not_heldBy, apply_ite (s.serves lk 0x50 tag [sideByte, byte])]
  rfl

/-- The row of SET ASPECT with its arguments named (06 R111). -/
theorem exec_setAspect (hs : s.house lk) (hside : sideArg sideByte = some side) {a : Aspect} (ha : aspectArg byte = some a) (tag : Byte) :
    exec (.setAspect lk tag sideByte byte) s =
      if (s.sec (s.endSection side)).holder ≠ some lk then s.answers lk 0x51 tag .notHolder .none s.toBlock
      else
        let stored := s.setSignal side { s.signal side with preset := a }
        match (s.signal side).mode with
        | .auto => s.answers lk 0x51 tag .done .none stored
        | .manual =>
          (s.setAspectCheck side a).elim (s.answers lk 0x51 tag .done .none (stored.showAspect side a))
            (fun o => s.answers lk 0x51 tag o .none s.toBlock) := by
  rw [exec_house hs rfl]
  simp only [Instr.own, ownSetAspect, hside, ha, Section.not_heldBy, apply_ite (s.serves lk 0x51 tag [sideByte, byte])]
  refine if_congr Iff.rfl rfl ?_
  cases (s.signal side).mode with
  | auto => rfl
  | manual => cases s.setAspectCheck side a <;> rfl

end SignalRows

/-- Settles O38: the arguments, the refusals of both rows, then both rows by the holder of the end section. -/
theorem signalRequests : Obligations.SignalRequests := by
  refine ⟨fun x => ⟨fun mode => modeArg_eq_some, fun a => aspectArg_eq_some⟩,
    fun s lk tag sideByte byte hs => ⟨fun h => exec_house_plain hs rfl (ownSetSignalMode_badArgument h),
      fun h => exec_house_plain hs rfl (ownSetAspect_badArgument h), fun side hside hholder => ⟨fun h => ?_, fun h => ?_⟩⟩,
    fun s lk tag sideByte byte side hs hside hholder => ⟨fun mode hmode => ?_, fun a ha => ?_⟩⟩
  · obtain ⟨mode, hmode⟩ := exists_modeArg h
    rw [exec_setSignalMode hs (sideArg_eq_some.2 hside) hmode, if_pos hholder]
  · obtain ⟨a, ha⟩ := exists_aspectArg h
    rw [exec_setAspect hs (sideArg_eq_some.2 hside) ha, if_pos hholder]
  · rw [exec_setSignalMode hs hside hmode, if_neg (not_not_intro hholder)]
    rfl
  · rw [exec_setAspect hs hside ha, if_neg (not_not_intro hholder), Block.setAspectCheck_eq]
    dsimp only
    cases (s.signal side).mode with
    | auto => rfl
    | manual =>
      iterate 4 refine elim_ite_some ?_
      rfl

end Sys2Proof
end

section
/-! SUPPORT. The legal tariff part clause by clause (07 R118, R122), and the operations of the Tariff Unit, which all keep it legal. -/
namespace Sys2Proof
open Machine

/-! ### The legal tariff part -/

/-- The two indices a walk holds lie in the store. -/
def Walk.InStore (w : Walk) : Prop := w.index < Config.storeSize ∧ w.next < Config.storeSize

/-- What `Tariff.legal` checks, clause by clause. -/
structure Tariff.Legal (t : Tariff) : Prop where
  canonical : storeWf t.store = true
  entries : ∀ e ∈ t.store, e.1 < Config.storeSize
  root : t.root < Config.storeSize
  walk : ∀ w, t.walk = some w → w.InStore
  access : ∀ a, t.access = some a → a.index < Config.storeSize
  oneAccess : t.walk.any (fun w => w.inAccess) = true → t.access.any (fun a => a.inAccess) = false

theorem Tariff.legal_iff {t : Tariff} : t.legal = true ↔ t.Legal := by
  simp only [Tariff.legal, Bool.and_eq_true, List.all_eq_true, decide_eq_true_eq, Option.all_eq_true, Bool.not_eq_true', Bool.and_eq_false_imp]
  exact ⟨fun ⟨⟨⟨⟨⟨canonical, entries⟩, root⟩, walk⟩, access⟩, one⟩ => ⟨canonical, entries, root, walk, access, one⟩,
    fun h => ⟨⟨⟨⟨⟨h.canonical, h.entries⟩, h.root⟩, h.walk⟩, h.access⟩, h.oneAccess⟩⟩

/-! ### The tariff record -/

/-- A write inside the store leaves every listed index inside it. -/
theorem storeWrite_index_lt {n i : Nat} (x : W64) (hi : i < n) :
    ∀ {store : List (Nat × W64)}, (∀ e ∈ store, e.1 < n) → ∀ e ∈ storeWrite store i x, e.1 < n := by
  intro store
  induction store with
  | nil => intro _; unfold storeWrite; split <;> simp [hi]
  | cons a rest ih =>
    intro h
    obtain ⟨ha, hrest⟩ := List.forall_mem_cons.1 h
    unfold storeWrite
    split_ifs
    · exact h
    · exact List.forall_mem_cons.2 ⟨hi, h⟩
    · exact hrest
    · exact List.forall_mem_cons.2 ⟨hi, hrest⟩
    · exact List.forall_mem_cons.2 ⟨ha, ih hrest⟩

theorem Tariff.busy_eq_false {t : Tariff} :
    t.busy = false ↔ t.walk.any (fun w => w.inAccess) = false ∧ t.access.any (fun a => a.inAccess) = false := by
  rw [Tariff.busy, Bool.or_eq_false_iff]

/-- What a grant can do: nothing, or the free store given to one of the two requesters (07 R122). -/
theorem Tariff.grant_cases (t : Tariff) : t.grant = t ∨ t.busy = false ∧ (t.grant = t.grantWalk ∨ t.grant = t.grantLink) := by
  unfold Tariff.grant
  by_cases hbusy : t.busy = true
  · exact .inl (if_pos hbusy)
  · have free : t.busy = false := by simpa using hbusy
    rw [if_neg hbusy]
    split
    · split_ifs
      · exact .inr ⟨free, .inr rfl⟩
      · exact .inr ⟨free, .inl rfl⟩
    · exact .inr ⟨free, .inl rfl⟩
    · exact .inr ⟨free, .inr rfl⟩
    · exact .inl rfl

namespace Tariff.Legal
variable {t : Tariff} (h : t.Legal)
include h

/-- A write inside the store. -/
theorem write {i : Nat} (hi : i < Config.storeSize) (x : W64) : ({ t with store := storeWrite t.store i x } : Tariff).Legal :=
  { h with canonical := storeWrite_wf i x h.canonical, entries := storeWrite_index_lt x hi h.entries }

/-- The office sets a root inside the store. -/
theorem withRoot {r : Nat} (hr : r < Config.storeSize) : ({ t with root := r } : Tariff).Legal := { h with root := hr }

/-- A walk whose indices lie in the store waits for its next access. -/
theorem waits {w : Walk} (hw : w.InStore) : ({ t with walk := some { w with inAccess := false } } : Tariff).Legal :=
  { h with walk := fun _ e => Option.some.inj e ▸ hw, oneAccess := fun hin => absurd hin Bool.false_ne_true }

/-- The walk record discarded. -/
theorem noWalk : ({ t with walk := none, engine := .idle } : Tariff).Legal :=
  { h with walk := fun _ hw => absurd hw.symm (Option.some_ne_none _), oneAccess := fun hin => absurd hin Bool.false_ne_true }

/-- The office asks for an access inside the store, and waits. -/
theorem asks {i : Nat} (hi : i < Config.storeSize) (write : Option W64) :
    ({ t with access := some { write := write, index := i, inAccess := false } } : Tariff).Legal :=
  { h with access := fun _ e => Option.some.inj e ▸ hi, oneAccess := fun _ => rfl }

/-- The office's access ended. -/
theorem noAccess : ({ t with access := none } : Tariff).Legal :=
  { h with access := fun _ ha => absurd ha.symm (Option.some_ne_none _), oneAccess := fun _ => rfl }

/-- A running walk made stale keeps its indices and its access. -/
theorem stale : t.staleWalk.Legal := by
  unfold Tariff.staleWalk
  split_ifs
  · refine { h with walk := fun w hw => ?_, oneAccess := fun hin => h.oneAccess ?_ }
    · obtain ⟨w0, hw0, rfl⟩ := Option.map_eq_some_iff.1 hw
      exact h.walk w0 hw0
    · rwa [Option.any_map] at hin
  · exact h

/-- A write-back marks an entry inside the store, or nothing (07 R128). -/
theorem markUsed {w : Walk} (hw : w.InStore) : (t.markUsed w).Legal := by
  unfold Tariff.markUsed
  dsimp only
  split
  · exact h.write hw.1 _
  · exact h

/-- A grant is made to one requester, and only while no access is in progress. -/
theorem grant : t.grant.Legal := by
  obtain same | ⟨free, granted | granted⟩ := t.grant_cases
  · rwa [same]
  · obtain ⟨-, noLink⟩ := Tariff.busy_eq_false.1 free
    rw [granted]
    refine { h with walk := fun w hw => ?_, oneAccess := fun _ => noLink }
    obtain ⟨w0, hw0, rfl⟩ := Option.map_eq_some_iff.1 hw
    exact h.walk w0 hw0
  · obtain ⟨noWalk, -⟩ := Tariff.busy_eq_false.1 free
    rw [granted]
    refine { h with access := fun a ha => ?_, oneAccess := fun hw => ?_ }
    · obtain ⟨a0, ha0, rfl⟩ := Option.map_eq_some_iff.1 ha
      exact h.access a0 ha0
    · exact absurd (noWalk.symm.trans hw) Bool.false_ne_true

end Tariff.Legal

/-! ### The operations of the Tariff Unit -/

/-- A delivery takes the vessel off the rating queue and leaves the rest of the tariff part (05 R85). -/
theorem Block.deliver_tariff (b : Block) (v : Fin 16) (result : Except WalkFailure Rate) :
    (b.deliver v result).tariff = { b.tariff with queue := b.tariff.queue.erase v } := by
  unfold Block.deliver
  dsimp only
  split <;> rfl

@[simp] theorem Block.replyInHand_tariff (b : Block) (lk : Link) (o : OutcomeCode) (p : Payload) : (b.replyInHand lk o p).tariff = b.tariff :=
  (b.replyInHand_keeps lk o p).tariff

/-- The index field of an entry has 11 bits (13 R204). -/
theorem entryIndex_lt (e : W64) : entryIndex e < Config.storeSize := (e.extractLsb' 0 11).isLt

/-- The judgement of the entry that a running walk has read, by its level (07 R126, R127). -/
def Block.judge (b : Block) (w : Walk) (e : W64) : Block :=
  match w.level with
  | .level1 | .level2 => b.judgeTable w e
  | .leaf => b.judgeLeaf w e
  | .target => b.judgeTarget w e

section WalkComplete
variable {b : Block}

/-- Without a walk access in progress, nothing completes (log 1). -/
theorem Block.walkComplete_idle (h : ∀ w, b.tariff.walk = some w → w.inAccess = false) : b.walkComplete = b := by
  unfold Block.walkComplete
  split
  · rfl
  next w hwalk => simp [h w hwalk]

variable {w : Walk} (hwalk : b.tariff.walk = some w) (hin : w.inAccess = true)
include hwalk hin

/-- A read of a running walk: its entry is judged. -/
theorem Block.walkComplete_read (hengine : b.tariff.engine = .walking) (hread : w.writeBack = false) :
    b.walkComplete = (b.judge w (storeRead b.tariff.store w.index)).regrant := by
  simp only [Block.walkComplete, hwalk, hin, hengine, hread, Bool.not_true, Bool.false_eq_true, if_false]
  rfl

/-- A write-back of a running walk: the used mark, and the walk goes on. -/
theorem Block.walkComplete_writeBack (hengine : b.tariff.engine = .walking) (hwrite : w.writeBack = true) :
    b.walkComplete = ((b.setTariff (b.tariff.markUsed w)).afterWriteBack w).regrant := by
  simp only [Block.walkComplete, hwalk, hin, hengine, hwrite, Bool.not_true, Bool.false_eq_true, if_false, if_true]

/-- An access of an abandoned walk: the walk ends (07 R138). -/
theorem Block.walkComplete_abandoned (hengine : b.tariff.engine ≠ .walking) :
    b.walkComplete = (if w.writeBack then b.setTariff (b.tariff.markUsed w) else b).endWalk.regrant := by
  simp only [Block.walkComplete, hwalk, hin, Bool.not_true, Bool.false_eq_true, if_false]

end WalkComplete

section Operations
variable {b : Block} (h : b.tariff.Legal)
include h

theorem Block.deliver_legal (v : Fin 16) (result : Except WalkFailure Rate) : (b.deliver v result).tariff.Legal := by
  rw [Block.deliver_tariff]
  exact { h with }

theorem Block.regrant_legal : b.regrant.tariff.Legal := h.grant

theorem Block.walkFails_legal (w : Walk) (c : WalkFailure) : (b.walkFails w c).tariff.Legal := Block.deliver_legal h.noWalk _ _

theorem Block.walkSucceeds_legal (w : Walk) (leaf : W64) : (b.walkSucceeds w leaf).tariff.Legal := by
  unfold Block.walkSucceeds
  refine Block.deliver_legal (Tariff.Legal.noWalk ?_) _ _
  split
  · exact h
  · exact { h with }

theorem Block.walkOn_legal {w : Walk} (hw : w.InStore) : (b.walkOn w).tariff.Legal := h.waits hw

theorem Block.judgeTable_legal {w : Walk} (hw : w.InStore) (e : W64) : (b.judgeTable w e).tariff.Legal := by
  unfold Block.judgeTable
  split
  · exact Block.walkFails_legal h ..
  · dsimp only
    split_ifs with hout hused
    · exact Block.walkFails_legal h ..
    · exact Block.walkOn_legal h ⟨Nat.lt_of_not_le hout, Nat.lt_of_not_le hout⟩
    · exact Block.walkOn_legal h ⟨hw.1, Nat.lt_of_not_le hout⟩
  · exact Block.walkFails_legal h ..

theorem Block.acceptLeaf_legal {w : Walk} (hw : w.InStore) (e : W64) : (b.acceptLeaf w e).tariff.Legal := by
  unfold Block.acceptLeaf
  dsimp only
  split_ifs
  · exact Block.walkSucceeds_legal h ..
  · exact Block.walkOn_legal h hw

theorem Block.judgeLeaf_legal {w : Walk} (hw : w.InStore) (e : W64) : (b.judgeLeaf w e).tariff.Legal := by
  unfold Block.judgeLeaf
  split
  · exact Block.acceptLeaf_legal h hw e
  · exact Block.walkOn_legal h ⟨entryIndex_lt e, hw.2⟩
  · exact Block.walkFails_legal h ..
  · exact Block.walkFails_legal h ..

theorem Block.judgeTarget_legal {w : Walk} (hw : w.InStore) (e : W64) : (b.judgeTarget w e).tariff.Legal := by
  unfold Block.judgeTarget
  split
  · exact Block.acceptLeaf_legal h hw e
  · exact Block.walkFails_legal h ..

theorem Block.afterWriteBack_legal {w : Walk} (hw : w.InStore) : (b.afterWriteBack w).tariff.Legal := by
  unfold Block.afterWriteBack
  split
  · exact Block.walkSucceeds_legal h ..
  · exact Block.walkOn_legal h ⟨hw.2, hw.2⟩

theorem Block.judge_legal {w : Walk} (hw : w.InStore) (e : W64) : (b.judge w e).tariff.Legal := by
  unfold Block.judge
  split
  · exact Block.judgeTable_legal h hw e
  · exact Block.judgeTable_legal h hw e
  · exact Block.judgeLeaf_legal h hw e
  · exact Block.judgeTarget_legal h hw e

theorem Block.walkComplete_legal : b.walkComplete.tariff.Legal := by
  by_cases hidle : ∀ w, b.tariff.walk = some w → w.inAccess = false
  · rwa [Block.walkComplete_idle hidle]
  · push Not at hidle
    obtain ⟨w, hwalk, hin⟩ := hidle
    have hin : w.inAccess = true := by simpa using hin
    have hw : w.InStore := h.walk w hwalk
    have marked := Tariff.Legal.markUsed h hw
    by_cases hengine : b.tariff.engine = .walking
    · cases hwrite : w.writeBack
      · rw [Block.walkComplete_read hwalk hin hengine hwrite]
        exact Block.regrant_legal (Block.judge_legal h hw _)
      · rw [Block.walkComplete_writeBack hwalk hin hengine hwrite]
        exact Block.regrant_legal (Block.afterWriteBack_legal (b := b.setTariff _) marked hw)
    · rw [Block.walkComplete_abandoned hwalk hin hengine]
      refine Block.regrant_legal (Tariff.Legal.noWalk ?_)
      split
      · exact marked
      · exact h

theorem Block.startWalk_legal (v : Fin 16) (k : Key) : (b.startWalk v k).tariff.Legal := by
  unfold Block.startWalk
  dsimp only
  split_ifs with hout
  · exact Block.walkFails_legal h ..
  · refine Tariff.Legal.grant { h with walk := fun w hw => ?_, oneAccess := fun hin => absurd hin Bool.false_ne_true }
    obtain rfl := Option.some.inj hw
    exact ⟨Nat.lt_of_not_le hout, (by decide : 0 < Config.storeSize)⟩

theorem Block.headTaken_legal : b.headTaken.tariff.Legal := by
  unfold Block.headTaken
  dsimp only
  split
  · split_ifs
    · exact Block.deliver_legal h ..
    · split
      · split
        · rw [Block.deliver_tariff]
          exact { h with }
        · exact h
      · exact Block.startWalk_legal h ..
  · exact h

theorem Block.leaveRating_legal (v : Fin 16) : (b.leaveRating v).tariff.Legal := by
  have left : (b.unqueueRating v).tariff.Legal := { h with }
  unfold Block.leaveRating
  dsimp only
  split
  · split_ifs
    · exact { left with }
    · exact left.noWalk
    · exact left
  · exact left

theorem Block.writeComplete_legal : b.writeComplete.tariff.Legal := by
  unfold Block.writeComplete
  split
  next x i haccess =>
    refine Tariff.Legal.grant ?_
    rw [Block.replyInHand_tariff]
    exact Tariff.Legal.stale (Tariff.Legal.noAccess (h.write (h.access _ haccess) x))
  · exact h

theorem Block.readComplete_legal : b.readComplete.tariff.Legal := by
  unfold Block.readComplete
  split
  · refine Tariff.Legal.grant ?_
    rw [Block.replyInHand_tariff]
    exact h.noAccess
  · exact h

theorem Block.askStore_legal (write : Option W64) {i : Nat} (hi : i < Config.storeSize) : (b.askStore write i).tariff.Legal :=
  (h.asks hi write).grant

end Operations
end Sys2Proof
end

section
/-! Every step keeps the tariff part legal: the rows that leave the tariff part as it was, and those of the Tariff Unit and the rating queue. -/
namespace Sys2Proof
open Machine

/-! ### Operations that leave the tariff part -/

section Spared
variable (b : Block)

@[simp] theorem Block.refreshSignals_tariff : b.refreshSignals.tariff = b.tariff := b.refreshSignals_keeps.tariff
@[simp] theorem Block.showAspect_tariff (side a) : (b.showAspect side a).tariff = b.tariff := (b.showAspect_keeps side a).tariff
@[simp] theorem Block.startMotion_tariff (k dir) : (b.startMotion k dir).tariff = b.tariff := (b.startMotion_keeps k dir).tariff
@[simp] theorem Block.stopMotion_tariff (k) : (b.stopMotion k).tariff = b.tariff := (b.stopMotion_keeps k).tariff
@[simp] theorem Block.headFault_tariff (k) : (b.headFault k).tariff = b.tariff := (b.headFault_keeps k).tariff
@[simp] theorem Block.shutSluice_tariff (k) : (b.shutSluice k).tariff = b.tariff := (b.shutSluice_keeps k).tariff
@[simp] theorem Block.setSluice_tariff (k st) : (b.setSluice k st).tariff = b.tariff := (b.setSluice_keeps k st).tariff
@[simp] theorem Block.unknownBeside_tariff (k) : (b.unknownBeside k).tariff = b.tariff := (b.unknownBeside_keeps k).tariff
@[simp] theorem Block.giveCause_tariff (k cause) : (b.giveCause k cause).tariff = b.tariff := (b.giveCause_keeps k cause).tariff
@[simp] theorem Block.surveyed_tariff (cs) : (b.surveyed cs).tariff = b.tariff := (b.surveyed_keeps cs).tariff
@[simp] theorem Block.startTransfer_tariff (k) : (b.startTransfer k).tariff = b.tariff := (b.startTransfer_keeps k).tariff
@[simp] theorem Block.handOn_tariff (k) : (b.handOn k).tariff = b.tariff := (b.handOn_keeps k).tariff
@[simp] theorem Block.endCall_tariff (side) : (b.endCall side).tariff = b.tariff := (b.endCall_keeps side).tariff
@[simp] theorem Block.advanced_tariff (v) : (b.advanced v).tariff = b.tariff := (b.advanced_keeps v).tariff
@[simp] theorem Block.drain_tariff : b.drain.tariff = b.tariff := b.drain_keeps.tariff
@[simp] theorem Block.ready_tariff (v) : (b.ready v).tariff = b.tariff := (b.ready_keeps v).tariff
@[simp] theorem Block.changeCondition_tariff (new cause link) : (b.changeCondition new cause link).tariff = b.tariff :=
  (b.changeCondition_keeps new cause link).tariff
@[simp] theorem Block.enterStopped_tariff (cause link) : (b.enterStopped cause link).tariff = b.tariff :=
  (b.enterStopped_keeps cause link).tariff

@[simp] theorem Block.arrival_tariff (i) : (b.arrival i).tariff = b.tariff := (b.arrival_keeps i).tariff
@[simp] theorem Block.channelEvents_tariff (k) : (b.channelEvents k).tariff = b.tariff := (b.channelEvents_keeps k).tariff
@[simp] theorem Block.phaseChange_tariff : b.phaseChange.tariff = b.tariff := b.phaseChange_keeps.tariff
@[simp] theorem Block.settleExpiry_tariff (side lamp) : (b.settleExpiry side lamp).tariff = b.tariff := (b.settleExpiry_keeps side lamp).tariff
@[simp] theorem Block.clockAdvance_tariff : b.clockAdvance.tariff = b.tariff := b.clockAdvance_keeps.tariff
@[simp] theorem Block.leaseExpiry_tariff (lk) : (b.leaseExpiry lk).tariff = b.tariff := (b.leaseExpiry_keeps lk).tariff

end Spared

/-! ### CONFIGURE leaves the tariff part -/

/-- A run of operations that each leave the tariff part leaves it. -/
theorem foldl_tariff {α : Type} {f : Block → α → Block} (hf : ∀ b a, (f b a).tariff = b.tariff) (l : List α) (b : Block) :
    (l.foldl f b).tariff = b.tariff :=
  List.foldlRecOn (motive := fun a => a.tariff = b.tariff) l f rfl fun a ha x _ => (hf a x).trans ha

theorem Block.offerReadings_tariff (b : Block) (k : Fin 5) : (b.offerReadings k).tariff = b.tariff := by
  have offered {effect : Block → Bool → Block} (heffect : ∀ a x, (effect a x).tariff = a.tariff) (o : Option Bool) (a : Block) :
      (o.elim a (effect a)).tariff = a.tariff := by
    cases o
    · rfl
    · exact heffect ..
  unfold Block.offerReadings
  dsimp only
  rw [offered fun a x => (a.paddleArrival_keeps k x).tariff, offered fun a x => (a.headEffect_keeps k x).tariff,
    offered fun a x => (a.beamEffect_keeps k x).tariff, offered fun a x => (a.limitEffect_keeps k .closedLimit none x).tariff]

theorem Block.changeN_tariff (b : Block) (n : Fin 5) : (b.changeN n).tariff = b.tariff := by
  simp only [Block.changeN, Block.refreshSignals_tariff, foldl_tariff Block.offerReadings_tariff, Block.setConfig_tariff,
    foldl_tariff fun b k => (Block.resetSection_keeps b k).tariff, foldl_tariff fun b k => (Block.dropSection_keeps b k).tariff,
    foldl_tariff fun b c => (Block.setChamberState_keeps b c _).tariff]

theorem Block.writeParameter_tariff (b : Block) (p : Parameter) (x : Nat) : (b.writeParameter p x).tariff = b.tariff := by
  cases p
  case chamberCount =>
    simp only [Block.writeParameter]
    split
    · exact Block.changeN_tariff ..
    · rfl
  all_goals rfl

theorem Block.applyItem_tariff (b : Block) (i : ConfigItem) : (b.applyItem i).tariff = b.tariff := by
  unfold Block.applyItem Block.applyParameter
  repeat' split
  · rfl
  · exact Block.writeParameter_tariff ..
  · rfl

/-! ### The owners -/

@[simp] theorem Answer.plain_after (o : OutcomeCode) (b : Block) : (Answer.plain o b).after = b := rfl
@[simp] theorem Answer.naming_after (o : OutcomeCode) (p : Payload) (b : Block) : (Answer.naming o p b).after = b := rfl
@[simp] theorem Answer.done_after (p : Payload) (b : Block) : (Answer.done p b).after = b := rfl
@[simp] theorem Answer.later_after (b : Block) : (Answer.later b).after = b := rfl

/-- The requests that reach the Tariff Unit: the office's own, and those that enter a vessel in the rating queue or take it off. -/
def Instr.rates (i : Instr) : Bool :=
  match i with
  | .book .. | .withdraw .. | .rerate .. | .writeTariff .. | .readTariff .. | .setRoot .. | .setWindow .. | .setFreeze .. | .flushAll ..
  | .flushNonstanding .. | .flushKey .. => true
  | _ => false

section SharedAnswers
variable (b : Block) (k : Fin 5)

theorem Block.openChecked_tariff : (b.openChecked k).after.tariff = b.tariff := by
  unfold Block.openChecked
  repeat' split
  all_goals simp

theorem Block.closeChecked_tariff : (b.closeChecked k).after.tariff = b.tariff := by
  unfold Block.closeChecked
  split <;> simp

theorem Block.haltGate_tariff : (b.haltGate k).after.tariff = b.tariff := by
  unfold Block.haltGate
  split <;> simp

theorem Block.survey_tariff (cs : List (Fin 4)) : (b.survey cs).after.tariff = b.tariff := by
  unfold Block.survey
  dsimp only
  split <;> simp

theorem Block.driven_tariff {lk : Link} {kByte : Byte} {go : Fin 5 → Answer} (hgo : ∀ k, (go k).after.tariff = b.tariff) :
    (b.driven lk kByte go).after.tariff = b.tariff := by
  unfold Block.driven
  repeat' split
  · rfl
  · rfl
  · exact hgo _

end SharedAnswers

/-- The owners outside the Tariff Unit and the rating queue leave the tariff part. -/
theorem Instr.own_tariff {i : Instr} (hi : i.rates = false) (b : Block) : (i.own b).after.tariff = b.tariff := by
  cases i
  case claim | cancelClaim | release | takeOver | stopGate | clearFault | setManual | setAuto | openGate | closeGate | transfer |
      abortTransfer | survey =>
    dsimp only [Instr.own, ownClaim, ownCancelClaim, ownRelease, ownTakeOver, ownOpenGate, ownCloseGate, ownStopGate, ownClearFault,
      ownSetManual, ownSetAuto, ownTransfer, ownAbortTransfer, ownSurvey]
    repeat' split
    all_goals simp [Block.openChecked_tariff, Block.closeChecked_tariff, Block.haltGate_tariff, Block.survey_tariff]
  case surveyAll => exact b.survey_tariff _
  case driveGateHalt => exact b.driven_tariff b.haltGate_tariff
  case driveGateOpen | driveGateClose | driveSluiceCrack | driveSluiceFull | driveSluiceShut =>
    refine b.driven_tariff fun k => ?_
    repeat' split
    all_goals simp [Block.openChecked_tariff, Block.closeChecked_tariff]
  case call | uncall | defer | advance | hold | unhold | setSignalMode | setAspect | openService | endService | stopAll | resume |
      configure | releaseJournal | fetchNotice | setNoticeLevel | setUrgent | setLineThreshold =>
    dsimp only [Instr.own, ownCall, ownUncall, ownDefer, ownAdvance, ownHold, ownUnhold, ownSetSignalMode, ownSetAspect, ownOpenService,
      ownEndService, ownStopAll, ownResume, ownConfigure, ownReleaseJournal, ownFetchNotice, ownSetNoticeLevel, ownSetUrgent,
      ownSetLineThreshold]
    repeat' split
    all_goals simp [foldl_tariff Block.applyItem_tariff]
  case readSection | readChamber | readChannel | readVessel | readQueue | readSignal | readRateCache | readJournal | readConfig =>
    dsimp only [Instr.own, ownReadSection, ownReadChamber, ownReadChannel, ownReadVessel, ownReadQueue, ownReadSignal, ownReadRateCache,
      ownReadJournal, ownReadConfig]
    repeat' split
    all_goals rfl
  case book | withdraw | rerate | writeTariff | readTariff | setRoot | setWindow | setFreeze | flushAll | flushNonstanding | flushKey =>
    exact Bool.noConfusion hi
  all_goals rfl

theorem Block.withdrawn_legal {b : Block} (h : b.tariff.Legal) (v : Fin 16) : (b.withdrawn v).tariff.Legal := by
  simp only [Block.withdrawn, Block.refreshSignals_tariff, Block.drain_tariff, Block.raise_tariff, Block.ready_tariff, Block.setVessel_tariff,
    Block.setQueue_tariff]
  exact Block.leaveRating_legal h v

/-- The owners of the Tariff Unit and of the rating queue keep the tariff part legal. -/
theorem Instr.own_legal (i : Instr) {b : Block} (h : b.tariff.Legal) : (i.own b).after.tariff.Legal := by
  by_cases hi : i.rates = false
  · rwa [Instr.own_tariff hi]
  have flushed (p : CacheEntry → Bool) : (flushWhere p b).after.tariff.Legal := Tariff.Legal.stale { h with }
  cases i
  case book =>
    simp only [Instr.own, ownBook]
    repeat' split
    all_goals exact { h with }
  case withdraw =>
    simp only [Instr.own, ownWithdraw]
    split
    · exact h
    · split
      · exact h
      · exact h
      · exact Block.withdrawn_legal h _
  case rerate =>
    simp only [Instr.own, ownRerate]
    repeat' split
    all_goals exact { h with }
  case writeTariff i entry =>
    simp only [Instr.own, ownWriteTariff]
    split
    · exact h
    next hin => exact Block.askStore_legal h _ (Nat.lt_of_not_le hin)
  case readTariff i =>
    simp only [Instr.own, ownReadTariff]
    split
    · exact h
    next hin => exact Block.askStore_legal h _ (Nat.lt_of_not_le hin)
  case setRoot r =>
    simp only [Instr.own, ownSetRoot]
    split
    · exact h
    next hin => exact (h.withRoot (Nat.lt_of_not_le hin)).stale
  case setWindow =>
    simp only [Instr.own, ownSetWindow]
    split
    · exact { h with }
    · exact h
  case setFreeze =>
    simp only [Instr.own, ownSetFreeze]
    repeat' split
    · exact h
    · exact h
    · exact { h with }
  case flushAll => exact flushed _
  case flushNonstanding => exact flushed _
  case flushKey =>
    simp only [Instr.own, ownFlushKey]
    split
    · exact flushed _
    · exact h
  all_goals exact absurd rfl hi

/-! ### The taking of a request -/

theorem Block.serve_tariff (b : Block) (lk : Link) (code tag : Byte) (own : Block → Answer) :
    (b.serve lk code tag own).tariff = (own b).after.tariff := by
  simp only [Block.serve]
  split <;> rfl

theorem Block.serveAlone_tariff (b : Block) (lk : Link) (code tag : Byte) (payload : List Byte) (own : Block → Answer) :
    (b.serveAlone lk code tag payload own).tariff = (own b).after.tariff := by
  simp only [Block.serveAlone]
  split <;> rfl

section Requests
variable {b : Block} (h : b.tariff.Legal)
include h

theorem Block.request_legal {i : Instr} (lk : Link) (code tag : Byte) (payload : List Byte) :
    (b.request lk code tag payload i.own).tariff.Legal := by
  unfold Block.request
  split
  · rw [Block.serveAlone_tariff]
    split
    · exact i.own_legal h
    · exact h
  · exact h

theorem judgeRequest_legal (lk : Link) (tag code : Byte) (payload : List Byte) : (judgeRequest lk tag code payload b).after.tariff.Legal := by
  unfold judgeRequest
  split_ifs
  · exact h
  · exact h
  · split
    · exact h
    next i hi => exact i.own_legal h

theorem Block.takeRequest_legal (lk : Link) : (b.takeRequest lk).tariff.Legal := by
  unfold Block.takeRequest
  split
  · split
    · rw [Block.serve_tariff]
      exact judgeRequest_legal h ..
    · rw [Block.serve_tariff]
      exact h
    · exact h
  · exact h

end Requests

/-! ### A tick leaves the tariff part -/

theorem Block.takeOutstanding_tariff (b : Block) : b.takeOutstanding.tariff = b.tariff := by
  simp [Block.takeOutstanding, foldl_tariff Block.channelEvents_tariff, foldl_tariff Block.arrival_tariff]

theorem Block.motionTick_tariff (b : Block) (pins : Vector Bool 40) (first : List Input) : (b.motionTick pins first).tariff = b.tariff := by
  have sampled (a : Block) : (a.sampleAll pins).tariff = a.tariff := by simp only [Block.sampleAll]
  have counted (a : Block) : a.countSteps.tariff = a.tariff := by simp only [Block.countSteps]
  simp only [Block.motionTick]
  split
  · rw [Block.setTick_tariff, Block.takeOutstanding_tariff]
  · rw [counted, foldl_tariff Block.arrival_tariff, sampled, Block.setTick_tariff, Block.takeOutstanding_tariff]

/-! ### The resets -/

theorem Block.warm_tariff (b : Block) :
    b.warm.tariff = b.tariff.warm (slotsAll.filter fun v => ((b.vessels.map Vessel.warm)[v]).reentered) := by
  simp only [Block.warm, foldl_tariff fun b k => (Block.resetSection_keeps b k).tariff,
    foldl_tariff fun b k => (Block.stopChannels_keeps b k).tariff]

/-- A warm reset keeps the store and the root, and leaves no walk and no access (07 R139). -/
theorem Block.warm_legal {b : Block} (h : b.tariff.Legal) : b.warm.tariff.Legal := by
  rw [Block.warm_tariff]
  exact { h.noWalk.noAccess with }

theorem Block.powerOn_legal (b : Block) : b.powerOn.tariff.Legal := Tariff.legal_iff.1 (by decide : tariffPowerOn.legal = true)

theorem Block.pinRelease_tariff (b : Block) : b.pinRelease.tariff = b.tariff := by
  unfold Block.pinRelease
  split <;> rfl

/-! ### Every row -/

/-- What a row does to the part keeps the tariff part legal. -/
theorem exec_legal {i : Instr} {s s' : State} (hstep : exec i s = .next s') (h : s.tariff.Legal) : s'.tariff.Legal := by
  have becomes {b : Block} (hb : exec i s = s.becomes b) (hlegal : b.tariff.Legal) : s'.tariff.Legal := by
    obtain rfl := Host.Outcome.next.inj (hb.symm.trans hstep)
    exact hlegal
  have spared {b : Block} (hb : exec i s = s.becomes b) (hsame : b.tariff = s.tariff) : s'.tariff.Legal := becomes hb (hsame ▸ h)
  have asked {lk : Link} {tag code : Byte} {payload : List Byte} (hi : i.frame = some (lk, tag, code, payload)) : s'.tariff.Legal :=
    becomes (exec_request hi) (Block.request_legal h lk code tag payload)
  cases i
  case powerOnReset => exact becomes rfl (Block.powerOn_legal _)
  case warmReset => exact becomes rfl (Block.warm_legal h)
  case resetPinRelease => exact spared rfl (Block.pinRelease_tariff _)
  case send | collect | ignoredTransaction => exact spared rfl rfl
  case requestTaken lk => exact becomes rfl (Block.takeRequest_legal h lk)
  case motionTick pins first => exact spared rfl (Block.motionTick_tariff _ pins first)
  case encoderPulse k => exact spared rfl (Block.pulse_keeps _ k).tariff
  case ratingHeadTaken => exact becomes rfl (Block.headTaken_legal h)
  case walkAccessComplete => exact becomes rfl (Block.walkComplete_legal h)
  case tariffWriteComplete => exact becomes rfl (Block.writeComplete_legal h)
  case tariffReadComplete => exact becomes rfl (Block.readComplete_legal h)
  case limitArrival | beamArrival | headSensorArrival | paddleShutArrival | floatArrival | bandArrival | lampProvingArrival | estopArrival =>
    exact spared (exec_arrival rfl s) (Block.arrival_tariff ..)
  case zero k => exact spared rfl (Block.zeroEvent_keeps _ k).tariff
  case stallExpiry k => exact spared rfl (Block.stallEvent_keeps _ k).tariff
  case compare k => exact spared rfl (Block.compareEvent_keeps _ k).tariff
  case expiryLimit k => exact spared rfl (Block.limitExpiry_keeps _ k).tariff
  case expiryShut k => exact spared rfl (Block.shutExpiry_keeps _ k).tariff
  case flasherPhaseChange => exact spared rfl (Block.phaseChange_tariff _)
  case lampSettleExpiry side lamp => exact spared rfl (Block.settleExpiry_tariff _ side lamp)
  case flightClockAdvance => exact spared rfl (Block.clockAdvance_tariff _)
  case leaseExpiry lk => exact spared rfl (Block.leaseExpiry_tariff _ lk)
  all_goals exact asked rfl

/-- Settles O57: every row keeps the tariff part legal, and a step on an empty queue does nothing. -/
theorem storeStaysLegal : Obligations.StoreStaysLegal := by
  intro s s' hstep hlegal
  rw [Tariff.legal_iff] at hlegal ⊢
  unfold step at hstep
  split at hstep
  · obtain rfl := Host.Outcome.next.inj hstep
    exact hlegal
  · exact exec_legal hstep hlegal

end Sys2Proof
end

section
/-! The office's settings of the Tariff Unit: SET ROOT, SET WINDOW, SET FREEZE and the flushes (07 R121, R123, R134, R135, R137). -/
namespace Sys2Proof
open Machine

/-! ### The arguments (O40) -/

theorem markArg_eq_none {x : Byte} (h : 1 < x.toNat) : markArg x = none := by
  rw [markArg]
  split
  · omega
  · omega
  · rfl

theorem markArg_eq_some {x : Byte} (h : x.toNat ≤ 1) : markArg x = some (decide (x.toNat = 1)) := by
  rw [markArg]
  split
  next h0 => simp [h0]
  next h1 => simp [h1]
  next hne0 hne1 => exact absurd h (by simp only [imp_false] at hne0 hne1; omega)

theorem markArg_markByte (x : Bool) : markArg (markByte x) = some x := by cases x <;> rfl

/-! ### The owners -/

theorem ownSetRoot_eq (r : W16) (b : Block) :
    ownSetRoot r b =
      if 2048 ≤ r.toNat then .plain .badArgument b else .plain .done (b.setTariff (Tariff.staleWalk { b.tariff with root := r.toNat })) :=
  rfl

theorem ownSetWindow_named (w : Fin 2) (enable : Bool) (base mask : W16) (b : Block) :
    ownSetWindow (byteOf w.val) (markByte enable) base mask b =
      .plain .done
        (b.setTariff { b.tariff with windows := b.tariff.windows.set w { enable := enable, base := base, mask := mask } }) := by
  simp only [ownSetWindow, finArg_byteOf w (by decide), markArg_markByte]

theorem ownSetWindow_badArgument {w enable : Byte} (h : 1 < w.toNat ∨ 1 < enable.toNat) (base mask : W16) (b : Block) :
    ownSetWindow w enable base mask b = .plain .badArgument b := by
  rcases h with h | h
  · simp only [ownSetWindow, finArg_eq_none h]
  · simp only [ownSetWindow, markArg_eq_none h]
    cases finArg 2 w <;> rfl

theorem ownSetFreeze_eq (f : Byte) (b : Block) :
    ownSetFreeze f b =
      if 1 < f.toNat then .plain .badArgument b
      else if b.tariff.freeze = decide (f.toNat = 1) then .plain .already b
      else .plain .done (b.setTariff { b.tariff with freeze := decide (f.toNat = 1) }) := by
  by_cases h : 1 < f.toNat
  · simp only [ownSetFreeze, markArg_eq_none h, if_pos h]
  · simp only [ownSetFreeze, markArg_eq_some (Nat.le_of_not_lt h), if_neg h]

/-! ### One set of the cache -/

theorem waysAll_eq : waysAll = List.finRange 4 := rfl

theorem CacheSet.flush_ways (c : CacheSet) (p : CacheEntry → Bool) (w : Fin 4) :
    (c.flush p).ways[w] = (match c.ways[w] with | some e => if p e then none else some e | none => none) := by
  simp only [CacheSet.flush, Fin.getElem_fin, Vector.getElem_map]
  cases c.ways[w.val] <;> rfl

theorem CacheSet.flushCount_eq (c : CacheSet) (p : CacheEntry → Bool) :
    c.flushCount p = ((List.finRange 4).filter fun w : Fin 4 => match c.ways[w] with | some e => p e | none => false).length := by
  have gone (w : Fin 4) : c.gone p w = (match c.ways[w] with | some e => p e | none => false) := by
    rw [CacheSet.gone]
    cases c.ways[w] <;> rfl
  rw [CacheSet.flushCount, waysAll_eq, funext gone]

/-- Settles O40: the settings by their owners, the flushes by the ways they remove. -/
theorem tariffSettings : Obligations.TariffSettings := by
  refine ⟨fun s lk tag hs => ⟨fun r => ?_, fun w enable base mask => ?_, fun w enable base mask h => ?_, fun f => ?_, rfl⟩,
    fun s lk tag hs => ⟨?_, ?_, fun group cls cargo => ?_⟩, fun c p => c.flushCount_eq p, fun c p w => ⟨c.flush_ways p w, rfl⟩⟩
  · rw [exec_office hs rfl]
    simp only [Instr.own, ownSetRoot_eq, apply_ite (s.serves lk 0x72 tag (bytesOf16 r)), State.serves_plain]
  · exact exec_office_plain hs rfl (ownSetWindow_named ..)
  · exact exec_office_plain hs rfl (ownSetWindow_badArgument h ..)
  · rw [exec_office hs rfl]
    simp only [Instr.own, ownSetFreeze_eq, apply_ite (s.serves lk 0x74 tag [f]), State.serves_plain]
  · exact exec_office hs rfl
  · exact exec_office hs rfl
  · rw [exec_office hs rfl]
    simp only [Instr.own, ownFlushKey, apply_ite (s.serves lk 0x77 tag [group, cls, cargo]), State.serves_plain]
    rfl

end Sys2Proof
end

section
/-! The tariff store and its arbiter: who is granted, WRITE TARIFF and READ TARIFF, and the completions of their accesses (07 R118 to R120,
R122). -/
namespace Sys2Proof
open Machine

/-! ### The arbiter (O41) -/

section Arbiter
variable {t : Tariff}

theorem Tariff.busy_iff :
    t.busy = true ↔ (∃ w, t.walk = some w ∧ w.inAccess = true) ∨ (∃ a, t.access = some a ∧ a.inAccess = true) := by
  simp only [Tariff.busy, Bool.or_eq_true, Option.any_eq_true]

theorem Tariff.walkWaits_iff : t.walkWaits = true ↔ t.engine = .walking ∧ ∃ w, t.walk = some w ∧ w.inAccess = false := by
  simp only [Tariff.walkWaits, Bool.and_eq_true, beq_iff_eq, Option.any_eq_true, Bool.not_eq_true']

theorem Tariff.grant_busy (h : t.busy = true) : t.grant = t := by rw [Tariff.grant, if_pos h]

/-- The grant of a free store, by who waits. -/
theorem Tariff.grant_free (h : t.busy = false) :
    t.grant =
      if t.walkWaits then (if t.linkWaits then (if t.lastServed = .walk then t.grantLink else t.grantWalk) else t.grantWalk)
      else (if t.linkWaits then t.grantLink else t) := by
  rw [Tariff.grant, if_neg (by simp [h])]
  cases t.walkWaits <;> cases t.linkWaits <;> rfl

end Arbiter

/-! ### The requests -/

theorem Machine.State.serves_later (s : State) (lk : Link) (code tag : Byte) (payload : List Byte) (b : Block) :
    s.serves lk code tag payload (.later b) =
      s.becomes (b.setLink lk { b.link lk with requests := [.good code tag payload], inHand := true }) := rfl

/-! ### The completions -/

section Completions
variable {b : Block}

theorem Block.writeComplete_idle (h : ∀ x i, b.tariff.access ≠ some { write := some x, index := i, inAccess := true }) :
    b.writeComplete = b := by
  unfold Block.writeComplete
  split
  next x i haccess => exact absurd haccess (h x i)
  · rfl

theorem Block.readComplete_idle (h : ∀ i, b.tariff.access ≠ some { write := none, index := i, inAccess := true }) : b.readComplete = b := by
  unfold Block.readComplete
  split
  next i haccess => exact absurd haccess (h i)
  · rfl

theorem Block.writeComplete_due {x : W64} {i : Nat} (h : b.tariff.access = some { write := some x, index := i, inAccess := true }) :
    b.writeComplete =
      ((b.setTariff (Tariff.staleWalk { b.tariff with store := storeWrite b.tariff.store i x, access := none })).replyInHand .t .done
        .none).regrant := by
  simp only [Block.writeComplete, h]

theorem Block.readComplete_due {i : Nat} (h : b.tariff.access = some { write := none, index := i, inAccess := true }) :
    b.readComplete =
      ((b.setTariff { b.tariff with access := none }).replyInHand .t .done (.bytes (bytesOf64 (storeRead b.tariff.store i)))).regrant := by
  simp only [Block.readComplete, h]

variable {code tag : Byte} {payload : List Byte} {rest : List RequestEntry}
  (hrequests : (b.link .t).requests = .good code tag payload :: rest)
include hrequests

/-- DONE for the request of Link T in hand, and the store granted again: what both completions end with. -/
theorem Block.regrant_replyInHand (t : Tariff) (p : Payload) :
    ((b.setTariff t).replyInHand .t .done p).regrant =
      (b.setTariff t.grant).setLink .t
        { b.link .t with
          requests := rest, inHand := false,
          replies := (b.link .t).replies ++ [{ code := code, tag := tag, outcome := .done, payload := p }] } := by
  simp only [Block.replyInHand, Block.setTariff_get_link, hrequests, Block.queueReply, List.drop_succ_cons, List.drop_zero]
  rfl

end Completions

theorem exec_tariffWriteComplete (s : State) : exec .tariffWriteComplete s = s.becomes s.writeComplete := rfl
theorem exec_tariffReadComplete (s : State) : exec .tariffReadComplete s = s.becomes s.readComplete := rfl

/-- Settles O41: the store, the arbiter, then the rows. -/
theorem storeAccess : Obligations.StoreAccess := by
  refine ⟨fun store i x h => ⟨storeWrite_wf i x h, fun j => storeRead_write i x j h, rfl⟩, fun t => Tariff.busy_iff,
    fun t => ⟨Tariff.grant_busy, fun hfree => ?_⟩, fun s tag i entry => ⟨fun hready => ?_, ?_, ?_⟩⟩
  · rw [Tariff.grant_free hfree, ← Tariff.walkWaits_iff, ← Tariff.linkWaits_iff]
    refine ⟨fun hw hl => ?_, fun hw hl => ?_, fun hw hl => ?_, fun hw hl => ?_⟩
    · rw [if_pos hw, if_neg hl]; rfl
    · rw [if_neg hw, if_pos hl]; rfl
    · rw [if_pos hw, if_pos hl]; rfl
    · rw [if_neg hw, if_neg hl]
  · have office : s.office .t := ⟨hready, rfl⟩
    constructor
    · rw [exec_office office rfl]
      simp only [Instr.own, ownWriteTariff, apply_ite (s.serves .t 0x70 tag (bytesOf16 i ++ bytesOf64 entry)), State.serves_plain,
        State.serves_later]
      rfl
    · rw [exec_office office rfl]
      simp only [Instr.own, ownReadTariff, apply_ite (s.serves .t 0x71 tag (bytesOf16 i)), State.serves_plain, State.serves_later]
      rfl
  · rintro ⟨write, index, inAccess⟩ code tag payload rest haccess rfl hrequests
    rw [exec_tariffWriteComplete, exec_tariffReadComplete]
    refine ⟨?_, ?_⟩
    · rintro x rfl
      rw [Block.writeComplete_due haccess, Block.readComplete_idle (by simp [haccess]), Block.regrant_replyInHand hrequests]
      exact ⟨rfl, rfl⟩
    · rintro rfl
      rw [Block.readComplete_due haccess, Block.writeComplete_idle (by simp [haccess]), Block.regrant_replyInHand hrequests]
      exact ⟨rfl, rfl⟩
  · intro hwaits
    rw [exec_tariffWriteComplete, exec_tariffReadComplete, Block.writeComplete_idle fun x i h => Bool.noConfusion (hwaits _ h),
      Block.readComplete_idle fun i h => Bool.noConfusion (hwaits _ h)]
    exact ⟨rfl, rfl⟩

end Sys2Proof
end

section
/-! SUPPORT. The entries a walk reads, by their bits, and the steps of a walk, each said once (07 R126 to R130, R133; 13 R204). -/
namespace Sys2Proof
open Machine

/-! ### The fields of an entry (13 R204) -/

theorem toNat_extractLsb'_eq (e : W64) (low width : Nat) : (e.extractLsb' low width).toNat = e.toNat / 2 ^ low % 2 ^ width := by
  rw [BitVec.extractLsb'_toNat, Nat.shiftRight_eq_div_pow]

/-- The kind stands in the two highest bits. -/
theorem entryKind_eq (e : W64) :
    entryKind e = (match e.toNat / 2 ^ 62 with | 0 => .invalid | 1 => .table | 2 => .rate | _ => .indirect) := by
  have top : (e.extractLsb' 62 2).toNat = e.toNat / 2 ^ 62 :=
    (toNat_extractLsb'_eq e 62 2).trans (Nat.mod_eq_of_lt (Nat.div_lt_of_lt_mul e.isLt))
  rw [← top]
  rfl

theorem entryIndex_eq (e : W64) : entryIndex e = e.toNat % 2048 := (toNat_extractLsb'_eq e 0 11).trans (by norm_num)

theorem entrySurcharge_eq (e : W64) : entrySurcharge e = e.toNat / 2 ^ 40 % 256 := toNat_extractLsb'_eq e 40 8

/-- The rate a walk delivers, from the bits of its leaf (07 R130). -/
theorem Walk.rate_eq (w : Walk) (leaf : W64) :
    w.rate leaf =
      { baseFee := leaf.toNat / 2 ^ 43 % 2 ^ 16, perMetre := leaf.toNat / 2 ^ 31 % 2 ^ 12, dwellRate := leaf.toNat / 2 ^ 21 % 2 ^ 10,
        freeMinutes := leaf.toNat / 2 ^ 13 % 2 ^ 8, surcharge := w.surcharge, hold := w.hold, exempt := leaf.getLsbD 60, stale := w.stale,
        source := w.source } := by
  simp only [Walk.rate, entryBaseFee, entryPerMetre, entryDwellRate, entryFreeMinutes, toNat_extractLsb'_eq, entryExempt]

/-- The cache entry a walk offers, from the bits of its leaf (07 R133). -/
theorem Walk.cacheEntry_eq (w : Walk) (leaf : W64) :
    w.cacheEntry leaf =
      { key := w.key, baseFee := leaf.toNat / 2 ^ 43 % 2 ^ 16, perMetre := leaf.toNat / 2 ^ 31 % 2 ^ 12,
        dwellRate := leaf.toNat / 2 ^ 21 % 2 ^ 10, freeMinutes := leaf.toNat / 2 ^ 13 % 2 ^ 8, surcharge := w.surcharge, hold := w.hold,
        exempt := leaf.getLsbD 60, standing := leaf.getLsbD 59, source := w.source.getD 0 } := by
  simp only [Walk.cacheEntry, entryBaseFee, entryPerMetre, entryDwellRate, entryFreeMinutes, toNat_extractLsb'_eq, entryExempt, entryStanding]

/-! ### The steps of a walk -/

theorem WalkLevel.below_eq {l : WalkLevel} : l.below = if l = .level1 then .level2 else .leaf := by cases l <;> rfl

section Judge
variable {b : Block} {w : Walk} {e : W64}

theorem Block.judge_table (h : w.level = .level1 ∨ w.level = .level2) : b.judge w e = b.judgeTable w e := by
  rcases h with h | h <;> simp only [Block.judge, h]

theorem Block.judge_leaf (h : w.level = .leaf) : b.judge w e = b.judgeLeaf w e := by simp only [Block.judge, h]

theorem Block.judge_target (h : w.level = .target) : b.judge w e = b.judgeTarget w e := by simp only [Block.judge, h]

end Judge

theorem exec_walkAccessComplete (s : State) : exec .walkAccessComplete s = s.becomes s.walkComplete := rfl

end Sys2Proof
end

section
/-! WALK_ACCESS_COMPLETE at a read (07 R126, R127, R129). -/
namespace Sys2Proof
open Machine

/-- A TABLE at LEVEL1 or LEVEL2 (07 R126, log 15). -/
theorem Block.judgeTable_of_table {b : Block} {w : Walk} {e : W64} (hkind : entryKind e = .table) (hread : w.writeBack = false) :
    b.judgeTable w e =
      (let next := entryIndex e + w.selector
       let w1 := { w with hold := w.hold || entryHold e, surcharge := min (w.surcharge + entrySurcharge e) 255, next := next }
       if Config.storeSize ≤ next then b.walkFails w .storeRange
       else if entryUsed e then b.walkOn { w1 with level := w.level.below, index := next }
       else b.walkOn { w1 with writeBack := true }) := by
  simp only [Block.judgeTable, hkind, Walk.descend, hread]

/-- Settles O43: the entry by its bits, then level by level and kind by kind. -/
theorem walkReads : Obligations.WalkReads := by
  refine ⟨fun e => ⟨entryKind_eq e, entryIndex_eq e, entrySurcharge_eq e⟩, fun b w => ⟨rfl, rfl⟩, ?_⟩
  intro s w hengine hwalk hin hread e answer leaf next w1
  have judged {b : Block} (hb : s.judge w e = b) : answer b := by
    rw [← hb]
    exact congrArg s.becomes (Block.walkComplete_read hwalk hin hengine hread)
  refine ⟨fun hlevel => judged ?_, fun hlevel => judged ?_, fun hlevel => judged ?_⟩
  · rw [Block.judge_table hlevel]
    have selected : entryIndex e + w.selector = next := by
      rcases hlevel with h | h <;> simp only [next, Walk.selector, h] <;> rfl
    cases hkind : entryKind e
    case table =>
      rw [Block.judgeTable_of_table hkind hread, WalkLevel.below_eq]
      simp only [selected]
      rfl
    all_goals simp only [Block.judgeTable, hkind]
  · rw [Block.judge_leaf hlevel]
    cases hkind : entryKind e
    case indirect => simp only [Block.judgeLeaf, hkind, ← hread]
    case rate => simp only [Block.judgeLeaf, hkind]; rfl
    all_goals simp only [Block.judgeLeaf, hkind]
  · rw [Block.judge_target hlevel]
    cases hkind : entryKind e
    case rate => simp only [Block.judgeTarget, hkind]; rfl
    all_goals simp only [Block.judgeTarget, hkind]

end Sys2Proof
end

section
/-! WALK_ACCESS_COMPLETE at a write-back, the end of a walk, and what a success delivers and caches (07 R128 to R130, R133, R138). -/
namespace Sys2Proof
open Machine

/-! ### The write-back (O44) -/

/-- A walk whose leaf is found ends in success; one that is not goes down to its next index (07 R126, R127). -/
theorem Block.afterWriteBack_eq (b : Block) (w : Walk) :
    b.afterWriteBack w =
      (match w.leaf with
       | some leaf => b.walkSucceeds w leaf
       | none =>
         b.walkOn { w with level := if w.level = .level1 then .level2 else .leaf, writeBack := false, index := w.next }) := by
  rw [← WalkLevel.below_eq]
  rfl

/-! ### The end of a walk -/

/-- A success is cached unless the walk is stale or the cache frozen (07 R130, R133). -/
theorem Block.walkSucceeds_eq (b : Block) (w : Walk) (leaf : W64) :
    b.walkSucceeds w leaf =
      (b.setTariff
        { b.tariff with
          cache :=
            if w.stale = true ∨ b.tariff.freeze = true then b.tariff.cache
            else b.tariff.cache.set w.key.set (CacheSet.place b.tariff.cache[w.key.set] (w.cacheEntry leaf)),
          walk := none, engine := .idle }).deliver w.slot (.ok (w.rate leaf)) := by
  simp only [Block.walkSucceeds, Bool.or_eq_true]
  split <;> rfl

/-! ### The way a result is placed in -/

section Victim
variable {c : CacheSet}

theorem CacheSet.victim_of_find {w : Fin 4} (h : waysAll.find? (fun w => (c.ways[w]).isNone) = some w) : c.victim = w := by
  simp only [CacheSet.victim, h]

/-- The lowest-numbered invalid way, when there is one (07 R133). -/
theorem CacheSet.victim_invalid (h : ∃ x : Fin 4, c.ways[x] = none) :
    c.ways[c.victim] = none ∧ ∀ x : Fin 4, x < c.victim → c.ways[x] ≠ none := by
  obtain ⟨x, hx⟩ := h
  have found : (waysAll.find? fun w => (c.ways[w]).isNone).isSome := List.find?_isSome.2 ⟨x, by simp [waysAll_eq], by simp [hx]⟩
  obtain ⟨w, hw⟩ := Option.isSome_iff_exists.1 found
  obtain rfl := CacheSet.victim_of_find hw
  obtain ⟨invalid, lowest⟩ := find?_finRange_eq_some.1 hw
  exact ⟨Option.isNone_iff_eq_none.1 invalid, fun x hx hnone => absurd (lowest x hx) (by simp [hnone])⟩

/-- Else the least recent one, the last of the use order (07 R133). -/
theorem CacheSet.victim_full (h : ∀ x : Fin 4, c.ways[x] ≠ none) {u : Fin 4} (hu : c.order.getLast? = some u) : c.victim = u := by
  have none : (waysAll.find? fun w => (c.ways[w]).isNone) = none := List.find?_eq_none.2 fun w _ hw => h w (Option.isNone_iff_eq_none.1 hw)
  simp only [CacheSet.victim, none, hu, Option.getD_some]

end Victim

/-- Settles O44: the leaf by its bits, the write-back and the abandoned walk, the two ends, and the way taken. -/
theorem walkWriteBacksAndEnds : Obligations.WalkWriteBacksAndEnds := by
  refine ⟨fun w leaf => ⟨w.rate_eq leaf, w.cacheEntry_eq leaf⟩, fun b => rfl, fun s w hwalk hin => ?_,
    fun b w leaf => ⟨fun c => rfl, b.walkSucceeds_eq w leaf,
      fun c e => ⟨c.victim, rfl, fun hfull u hu => CacheSet.victim_full hfull hu, CacheSet.victim_invalid⟩⟩⟩
  intro t e accepted b
  have kind : accepted = w.level.kind := by
    simp only [accepted]
    cases w.level <;> rfl
  have marked : s.setTariff (s.tariff.markUsed w) = b := by
    simp only [b, kind]
    rfl
  refine ⟨fun hwrite hengine => ?_, fun hengine => ?_⟩
  · rw [exec_walkAccessComplete, Block.walkComplete_writeBack hwalk hin hengine hwrite, marked]
    exact congrArg (fun a : Block => s.becomes a.regrant) (b.afterWriteBack_eq w)
  · rw [exec_walkAccessComplete, Block.walkComplete_abandoned hwalk hin hengine, marked]

end Sys2Proof
end

section
/-! SUPPORT. The legal account part (09 R158, R161; 08 R155) and the operations of the Account Unit, which keep it. -/
namespace Sys2Proof
open Machine

/- One declaration after the other, here and in the sections below: the whole text is compiled as one module under a memory limit. -/
set_option Elab.async false

theorem consecutive_of_cons {next : W32} {a : AccountRecord} {journal : List AccountRecord}
    (h : consecutive next (a :: journal) = true) : consecutive next journal = true := by
  cases journal with
  | nil => rfl
  | cons => exact Bool.and_elim_right h

/-- The oldest records released leave a run of numbers (09 R161, R163). -/
theorem consecutive_drop {next : W32} {journal : List AccountRecord} (h : consecutive next journal = true) (i : Nat) :
    consecutive next (journal.drop i) = true := by
  induction i generalizing journal with
  | zero => exact h
  | succ i ih =>
    cases journal with
    | nil => exact h
    | cons => exact ih (consecutive_of_cons h)

/-- A record that takes the next number keeps the run (09 R161). -/
theorem consecutive_append {r : AccountRecord} {journal : List AccountRecord} (h : consecutive r.sequence journal = true) :
    consecutive (r.sequence + 1) (journal ++ [r]) = true := by
  induction journal with
  | nil => exact beq_self_eq_true _
  | cons a rest ih =>
    cases rest with
    | nil => exact Bool.and_intro h (beq_self_eq_true _)
    | cons => exact Bool.and_intro (Bool.and_elim_left h) (ih (Bool.and_elim_right h))

/-- What the account part keeps inside an event too: at most 64 records with consecutive numbers, the write-off total within its limit. -/
def Account.Sound (x : Account) : Prop :=
  x.journal.length ≤ Config.journalDepth ∧ consecutive x.nextSeq x.journal = true ∧ x.writeOff ≤ moneyMax

theorem Account.sound_of_legal {x : Account} (h : x.legal = true) : x.Sound :=
  have hrun := Bool.and_elim_left (Bool.and_elim_left h)
  ⟨of_decide_eq_true (Bool.and_elim_left hrun), Bool.and_elim_right hrun, of_decide_eq_true (Bool.and_elim_right h)⟩

/-- A sound part is legal with no vessel waiting to be written, or with a full journal (09 R158). -/
theorem Account.Sound.legal {x : Account} (h : x.Sound) (hwritten : x.closing = [] ∨ x.journal.length = Config.journalDepth) :
    x.legal = true :=
  have written := Bool.or_eq_true_iff.2 (hwritten.imp List.isEmpty_iff.2 (decide_eq_true ·))
  Bool.and_intro (Bool.and_intro (Bool.and_intro (decide_eq_true h.1) h.2.1) written) (decide_eq_true h.2.2)

theorem addMoney_le (a b : Nat) : addMoney a b ≤ moneyMax := Nat.min_le_right ..

/-! ### The writing of the closing queue (09 R158) -/

/-- The account part of a block is legal. -/
def Block.AcctLegal (b : Block) : Prop := b.acct.legal = true

section Operations
variable {b : Block}

/-- An operation that leaves the account part keeps what is known of it. -/
theorem Block.keeps.of_acct {b' : Block} {parts : List Part} (P : Account → Prop) (kept : b.keeps b' parts)
    (hp : false = decide (Part.acct ∈ parts)) (h : P b.acct) : P b'.acct :=
  kept.acct (of_decide_eq_false hp.symm) ▸ h

theorem Block.keeps.acctLegal {b' : Block} {parts : List Part} (kept : b.keeps b' parts) (h : b.AcctLegal)
    (hp : false = decide (Part.acct ∈ parts)) : b'.AcctLegal :=
  kept.of_acct (·.legal = true) hp h

theorem Block.ite_acctLegal {c : Prop} [Decidable c] {x y : Block} (hx : x.AcctLegal) (hy : y.AcctLegal) : (if c then x else y).AcctLegal :=
  iteInduction (fun _ => hx) fun _ => hy

theorem Block.foldl_acctLegal {α : Type} {f : Block → α → Block} (hf : ∀ {b : Block}, b.AcctLegal → ∀ x, (f b x).AcctLegal)
    (l : List α) (h : b.AcctLegal) : (l.foldl f b).AcctLegal := by
  induction l generalizing b with
  | nil => exact h
  | cons x l ih => exact ih (hf h x)

/-- A meter released is all that `releaseMeter` changes of the account part (08 R147). -/
theorem Block.releaseMeter_of_acct (P : Account → Prop) (h : ∀ meters, P { b.acct with meters := meters }) (m : Option (Fin 8)) :
    P (b.releaseMeter m).acct := by
  cases m
  · exact h _
  · exact h _

/-- A record written with the next number, while the journal has room (09 R158, R161). -/
theorem Block.writeRecord_sound (h : b.acct.Sound) (hroom : b.acct.journal.length < Config.journalDepth) (v : Fin 16)
    (rest : List (Fin 16)) :
    (b.writeRecord v rest).acct.Sound ∧ (b.writeRecord v rest).acct.closing = rest := by
  obtain ⟨-, hrun, hmoney⟩ := h
  refine Block.releaseMeter_of_acct (fun x => x.Sound ∧ x.closing = rest) (fun _ => ?_) _
  refine (Block.journalNotices_keeps ..).of_acct (fun x => x.Sound ∧ x.closing = rest) rfl ⟨⟨?_, ?_, hmoney⟩, rfl⟩
  · exact List.length_append ▸ hroom
  · exact consecutive_append (r := (b.vessel v).account _) hrun

/-- The writing leaves the closing queue empty or the journal full. -/
theorem Block.drainFor_acctLegal {fuel : Nat} (h : b.acct.Sound) (hfuel : b.acct.closing.length ≤ fuel) :
    (Block.drainFor fuel b).AcctLegal := by
  induction fuel generalizing b with
  | zero => exact h.legal (.inl (List.eq_nil_of_length_eq_zero (Nat.le_zero.1 hfuel)))
  | succ fuel ih =>
    unfold Block.drainFor
    generalize hclosing : b.acct.closing = queue at hfuel
    cases queue with
    | nil => exact h.legal (.inl hclosing)
    | cons v rest =>
      refine iteInduction (motive := Block.AcctLegal) (fun hroom => ?_) fun hfull => ?_
      · obtain ⟨hsound, hrest⟩ := Block.writeRecord_sound h hroom v rest
        exact ih hsound ((congrArg List.length hrest).trans_le (Nat.le_of_succ_le_succ hfuel))
      · exact h.legal (.inr (Nat.le_antisymm h.1 (Nat.le_of_not_lt hfull)))

theorem Block.drain_acctLegal (h : b.acct.Sound) : b.drain.AcctLegal := Block.drainFor_acctLegal h le_rfl

/-! ### Meters and the clock (08 R140, R141, R144 to R146) -/

theorem Block.minuteAt_sound (h : b.acct.Sound) (m : Fin 8) : (b.minuteAt m).acct.Sound := by
  dsimp only [Block.minuteAt]
  cases (b.meter m).state
  case stopping => exact Option.casesOn (b.meter m).owner h fun _ => h
  all_goals exact h

theorem Block.minuteTick_acctLegal (h : b.AcctLegal) : b.minuteTick.AcctLegal :=
  Block.drain_acctLegal (List.foldlRecOn (motive := fun a : Block => a.acct.Sound) metersAll _ (Account.sound_of_legal h) fun _ ha m _ =>
    Block.minuteAt_sound ha m)

theorem Block.clockAdvance_acctLegal (h : b.AcctLegal) : b.clockAdvance.AcctLegal := by
  have ticked {a : Block} (ha : a.AcctLegal) : (if a.acct.clock.toNat % 60 = 0 then a.minuteTick else a).AcctLegal :=
    Block.ite_acctLegal (Block.minuteTick_acctLegal ha) ha
  refine Block.ite_acctLegal (ticked (Block.ite_acctLegal ?_ ((Block.leasesAdvance_keeps _).acctLegal ?_ rfl))) h
  · exact h
  · exact h

theorem Block.assignMeter_acctLegal (h : b.AcctLegal) (v : Fin 16) : (b.assignMeter v).AcctLegal := by
  delta Block.assignMeter
  exact Option.casesOn b.freeMeter h fun _ => h

theorem Block.stopMeter_acctLegal (h : b.AcctLegal) (v : Fin 16) : (b.stopMeter v).AcctLegal := by
  delta Block.stopMeter
  exact Option.casesOn (b.vessel v).meter h fun _ => h

/-! ### The lockage charge (08 R153, R155) -/

theorem Block.giveShare_acctLegal (h : b.AcctLegal) (v : Fin 16) (share : Nat) : (b.giveShare v share).AcctLegal := by
  refine Block.ite_acctLegal ?_ ?_
  · exact Bool.and_intro (Bool.and_elim_left h) (decide_eq_true (addMoney_le ..))
  · exact h

theorem Block.lockageEvent_acctLegal (h : b.AcctLegal) (occupants : List (Fin 16)) : (b.lockageEvent occupants).AcctLegal :=
  Block.foldl_acctLegal (fun ha v => Block.giveShare_acctLegal ha v _) occupants h

end Operations
end Sys2Proof
end

section
/-! SUPPORT. The operations of the flight that can reach the Account Unit keep the account part legal. -/
namespace Sys2Proof
open Machine

set_option Elab.async false

section Operations
variable {b : Block} (h : b.AcctLegal)
include h

theorem Block.refreshSignals_acctLegal : b.refreshSignals.AcctLegal := (Block.refreshSignals_keeps _).acctLegal h rfl

/-! ### Transfers, arrivals and CONFIGURE, which can end in a lockage -/

theorem Block.lockageDecision_acctLegal (k : Fin 5) : (b.lockageDecision k).AcctLegal := by
  have counted (served : Bool) : ((b.beside k).foldl (Block.countLockage served) b).AcctLegal :=
    Block.foldl_acctLegal (fun ha c => (Block.countLockage_keeps _ served c).acctLegal ha rfl) _ h
  exact Block.ite_acctLegal (counted _) (Block.lockageEvent_acctLegal (counted _) _)

theorem Block.endTransfer_acctLegal (k : Fin 5) (r : TransferRec) : (b.endTransfer k r).AcctLegal := by
  have stopped (x : Section) : ((b.setSec k x).stopTransferChannel k).AcctLegal := (Block.stopTransferChannel_keeps ..).acctLegal h rfl
  dsimp only [Block.endTransfer]
  refine Option.casesOn (b.transferEnd k r) ?_ fun why => ?_
  · exact Block.lockageDecision_acctLegal ((Block.raise_keeps ..).acctLegal ((Block.levelled_keeps ..).acctLegal (stopped _) rfl) rfl) k
  · have failed (x : Section) (n : Notice) : ((((b.setSec k x).stopTransferChannel k).unknownBeside k).raise n).AcctLegal :=
      (Block.raise_keeps ..).acctLegal ((Block.unknownBeside_keeps ..).acctLegal (stopped x) rfl) rfl
    exact Block.ite_acctLegal ((Block.tellLevelFaults_keeps ..).acctLegal (failed ..) rfl) (failed ..)

theorem Block.paddleArrival_acctLegal (k : Fin 5) (shut : Bool) : (b.paddleArrival k shut).AcctLegal := by
  dsimp only [Block.paddleArrival]
  cases (b.sec k).sluice
  case shut => exact Bool.casesOn shut (Block.ite_acctLegal h ((Block.loseProof_keeps ..).acctLegal h rfl)) h
  case shutting =>
    refine Bool.casesOn shut h (Option.casesOn (b.sec k).transfer ?_ fun r => Block.endTransfer_acctLegal h k r)
    exact (Block.stopTransferChannel_keeps ..).acctLegal ((Block.setSluice_keeps ..).acctLegal h rfl) rfl
  all_goals exact h

theorem Block.arrivalEffect_acctLegal (i : Input) (before : Option Bool) (x : Bool) : (b.arrivalEffect i before x).AcctLegal := by
  cases i
  case paddle k => exact Block.paddleArrival_acctLegal h k x
  case openLimit | closedLimit => exact (Block.limitEffect_keeps ..).acctLegal h rfl
  case beam => exact (Block.beamEffect_keeps ..).acctLegal h rfl
  case head => exact (Block.headEffect_keeps ..).acctLegal h rfl
  case lowFloat | highFloat => exact h
  case band => exact Block.refreshSignals_acctLegal ((Block.bandEffect_keeps ..).acctLegal h rfl)
  case redProving => exact Block.refreshSignals_acctLegal ((Block.provingArrival_keeps ..).acctLegal h rfl)
  case greenProving => exact (Block.provingArrival_keeps ..).acctLegal h rfl
  case estop => exact (Block.estopEffect_keeps ..).acctLegal h rfl

theorem Block.arrival_acctLegal (i : Input) : (b.arrival i).AcctLegal := by
  dsimp only [Block.arrival]
  refine Option.casesOn (b.qual i).raised h fun x => ?_
  exact Block.ite_acctLegal (Block.arrivalEffect_acctLegal (b := b.setQual i _) h ..) h

theorem Block.offerReadings_acctLegal (k : Fin 5) : (b.offerReadings k).AcctLegal := by
  have offered {a : Block} {effect : Bool → Block} {o : Option Bool} (ha : a.AcctLegal)
      (heffect : a.AcctLegal → ∀ x, (effect x).AcctLegal) : (o.elim a effect).AcctLegal :=
    o.casesOn ha (heffect ha)
  refine offered (offered (offered (offered h ?_) ?_) ?_) ?_
  · exact fun ha x => (Block.limitEffect_keeps _ k .closedLimit none x).acctLegal ha rfl
  · exact fun ha x => (Block.beamEffect_keeps _ k x).acctLegal ha rfl
  · exact fun ha x => (Block.headEffect_keeps _ k x).acctLegal ha rfl
  · exact fun ha x => Block.paddleArrival_acctLegal ha k x

theorem Block.changeN_acctLegal (n : Fin 5) : (b.changeN n).AcctLegal := by
  refine Block.refreshSignals_acctLegal (Block.foldl_acctLegal Block.offerReadings_acctLegal _ ?_)
  refine Block.foldl_acctLegal (fun ha k => (Block.resetSection_keeps _ k).acctLegal ha rfl) _ ?_
  refine Block.foldl_acctLegal (fun ha c => (Block.setChamberState_keeps _ c _).acctLegal ha rfl) _ ?_
  exact (Block.setConfig_keeps ..).acctLegal (Block.foldl_acctLegal (fun ha k => (Block.dropSection_keeps _ k).acctLegal ha rfl) _ h) rfl

theorem Block.applyItem_acctLegal (i : ConfigItem) : (b.applyItem i).AcctLegal := by
  delta Block.applyItem
  refine Option.casesOn (parameterArg i.param i.index) h fun p => Block.ite_acctLegal h ?_
  cases p
  case chamberCount =>
    dsimp only [Block.writeParameter]
    split
    · exact Block.changeN_acctLegal h _
    · exact h
  all_goals exact h

/-! ### Admission, exit and withdrawal (05 R95, R97, R99) -/

theorem Block.enter_acctLegal (v : Fin 16) : (b.enter v).AcctLegal := by
  refine Block.assignMeter_acctLegal (b := Block.setVessel _ _ _) ?_ v
  exact h

theorem Block.leave_acctLegal (v : Fin 16) (src : Fin 4) : (b.leave v src).AcctLegal := by
  refine Block.stopMeter_acctLegal (b := Block.setVessel _ _ _) ?_ v
  exact h

theorem Block.advanced_acctLegal (v : Fin 16) : (b.advanced v).AcctLegal := by
  delta Block.advanced
  cases (b.vessel v).position
  case chamber src =>
    exact Option.casesOn (b.crossing (b.vessel v)).dest (Block.leave_acctLegal h v src) fun c =>
      (Block.moveOn_keeps b v src c).acctLegal h rfl
  all_goals exact Block.enter_acctLegal h v

/-- A vessel withdrawn is ready, and written when the journal has room (09 R157, R158). -/
theorem Block.withdrawn_acctLegal (v : Fin 16) : (b.withdrawn v).AcctLegal := by
  refine Block.refreshSignals_acctLegal (Block.drain_acctLegal ?_)
  have left : (b.leaveRating v).acct.Sound := Account.sound_of_legal ((Block.leaveRating_keeps b v).acctLegal h rfl)
  exact left

end Operations
end Sys2Proof
end

section
/-! SUPPORT. Every owner keeps the account part legal: an answer is followed along the branches of its owner (11 R188). -/
namespace Sys2Proof
open Machine

set_option Elab.async false

/-! ### The owners -/

/-- The account part is legal after an answer. -/
def Answer.AcctLegal (a : Answer) : Prop := a.after.AcctLegal

section Answers
variable {x y : Answer}

theorem Answer.acctLegal_plain {o : OutcomeCode} {b : Block} (h : b.AcctLegal) : (Answer.plain o b).AcctLegal := h

theorem Answer.acctLegal_ite {c : Prop} {inst : Decidable c} (hx : x.AcctLegal) (hy : y.AcctLegal) : (if c then x else y).AcctLegal :=
  iteInduction (fun _ => hx) fun _ => hy

theorem Answer.acctLegal_dite {c : Prop} {inst : Decidable c} {f : c → Answer} {g : ¬c → Answer} (hf : ∀ hc, (f hc).AcctLegal)
    (hg : ∀ hc, (g hc).AcctLegal) :
    (if hc : c then f hc else g hc).AcctLegal := by
  split
  · exact hf _
  · exact hg _

/-! An owner looks its argument up first. One lemma for each type of what it finds. -/

theorem Answer.acctLegal_section {o : Option (Fin 5)} {f : Fin 5 → Answer} (hx : x.AcctLegal) (hf : ∀ k, (f k).AcctLegal) :
    (match o with | none => x | some k => f k).AcctLegal :=
  o.casesOn hx hf

theorem Answer.acctLegal_slot {o : Option (Fin 16)} {f : Fin 16 → Answer} (hx : x.AcctLegal) (hf : ∀ v, (f v).AcctLegal) :
    (match o with | none => x | some v => f v).AcctLegal :=
  o.casesOn hx hf

theorem Answer.acctLegal_entry {o : Option NoticeEntry} {f : NoticeEntry → Answer} (hx : x.AcctLegal) (hf : ∀ e, (f e).AcctLegal) :
    (match o with | none => x | some e => f e).AcctLegal :=
  o.casesOn hx hf

theorem Answer.acctLegal_side {o : Option Side} {f : Side → Answer} (hx : x.AcctLegal) (hf : ∀ side, (f side).AcctLegal) :
    (match o with | none => x | some side => f side).AcctLegal :=
  o.casesOn hx hf

theorem Answer.acctLegal_check {o : Option OutcomeCode} {b : Block} (h : b.AcctLegal) (hy : y.AcctLegal) :
    (match o with | some o => Answer.plain o b | none => y).AcctLegal :=
  o.casesOn hy fun _ => h

end Answers

section Owners
open Answer
variable {b : Block} (h : b.AcctLegal)
include h

theorem Block.openChecked_acctLegal (k : Fin 5) : (b.openChecked k).AcctLegal := by
  dsimp only [Block.openChecked]
  refine acctLegal_ite ?_ (acctLegal_ite ?_ (Option.casesOn (b.reading (.head k)) h fun x => Bool.casesOn x ?_ ?_))
  · exact h
  · exact h
  · exact (Block.headFault_keeps ..).acctLegal h rfl
  · exact Block.refreshSignals_acctLegal ((Block.startMotion_keeps ..).acctLegal h rfl)

theorem Block.closeChecked_acctLegal (k : Fin 5) : (b.closeChecked k).AcctLegal := by
  refine acctLegal_ite ?_ ?_
  · exact h
  · exact Block.refreshSignals_acctLegal ((Block.startMotion_keeps ..).acctLegal h rfl)

theorem Block.haltGate_acctLegal (k : Fin 5) : (b.haltGate k).AcctLegal := by
  refine acctLegal_ite ?_ ?_
  · exact Block.refreshSignals_acctLegal ((Block.stopMotion_keeps ..).acctLegal h rfl)
  · exact h

theorem Block.survey_acctLegal (cs : List (Fin 4)) : (b.survey cs).AcctLegal := by
  refine acctLegal_ite ?_ ?_
  · exact h
  · exact (Block.surveyed_keeps ..).acctLegal h rfl

theorem Block.driven_acctLegal (lk : Link) (k : Byte) {go : Fin 5 → Answer} (hgo : ∀ k, (go k).AcctLegal) :
    (b.driven lk k go).AcctLegal := by
  refine acctLegal_section ?_ fun j => acctLegal_check h (hgo j)
  exact h

/-- Every owner keeps the account part legal. -/
theorem Instr.own_acctLegal (i : Instr) : (i.own b).AcctLegal := by
  induction i
  case claim =>
    dsimp only [Instr.own, ownClaim]
    refine acctLegal_section ?_ fun k => Option.casesOn (b.sec k).holder (acctLegal_ite ?_ ?_) fun _ =>
      acctLegal_ite ?_ (acctLegal_ite ?_ ?_)
    all_goals exact h
  case cancelClaim =>
    dsimp only [Instr.own, ownCancelClaim]
    refine acctLegal_section ?_ fun k => acctLegal_ite ?_ ?_
    all_goals exact h
  case release =>
    dsimp only [Instr.own, ownRelease]
    refine acctLegal_section ?_ fun k => acctLegal_ite ?_ (acctLegal_ite ?_ (acctLegal_ite ?_ (acctLegal_ite ?_
      (acctLegal_ite ?_ ((Block.handOn_keeps ..).acctLegal h rfl)))))
    all_goals exact h
  case takeOver =>
    dsimp only [Instr.own, ownTakeOver]
    refine acctLegal_section ?_ fun k => Option.casesOn (b.sec k).holder (acctLegal_ite ?_ ?_) fun _ => acctLegal_ite ?_ ?_
    all_goals exact h
  case openGate =>
    refine acctLegal_section ?_ fun k => acctLegal_check h (acctLegal_ite ?_ (Block.openChecked_acctLegal h k))
    all_goals exact h
  case closeGate =>
    refine acctLegal_section ?_ fun k => acctLegal_check h (Block.closeChecked_acctLegal h k)
    exact h
  case stopGate =>
    refine acctLegal_section ?_ fun k => acctLegal_ite ?_ (Block.haltGate_acctLegal h k)
    all_goals exact h
  case clearFault =>
    dsimp only [Instr.own, ownClearFault]
    refine acctLegal_section ?_ fun k => acctLegal_ite ?_ (acctLegal_ite ?_ (acctLegal_ite ?_ (acctLegal_ite ?_ ?_)))
    all_goals exact h
  case setManual =>
    dsimp only [Instr.own, ownSetManual]
    refine acctLegal_section ?_ fun k => acctLegal_ite ?_ (acctLegal_ite ?_ (acctLegal_ite ?_ ?_))
    all_goals exact h
  case setAuto =>
    dsimp only [Instr.own, ownSetAuto]
    refine acctLegal_section ?_ fun k => acctLegal_ite ?_ (acctLegal_ite ?_ (acctLegal_ite ?_ ?_))
    all_goals exact h
  case driveGateOpen => exact Block.driven_acctLegal h _ _ fun k => acctLegal_check h (Block.openChecked_acctLegal h k)
  case driveGateClose => exact Block.driven_acctLegal h _ _ fun k => acctLegal_check h (Block.closeChecked_acctLegal h k)
  case driveGateHalt => exact Block.driven_acctLegal h _ _ (Block.haltGate_acctLegal h)
  case driveSluiceCrack lk _ k =>
    refine Block.driven_acctLegal h _ _ fun k => acctLegal_check h (acctLegal_ite ?_ ?_)
    · exact (Block.unknownBeside_keeps ..).acctLegal ((Block.setSluice_keeps (b.latch k _ _) ..).acctLegal h rfl) rfl
    · exact h
  case driveSluiceFull =>
    refine Block.driven_acctLegal h _ _ fun k => acctLegal_check h ?_
    have opened (set : DriveLatches) : ((b.latch k set latchNone).setSluice k .opened).AcctLegal :=
      (Block.setSluice_keeps ..).acctLegal h rfl
    cases (b.sec k).sluice
    case shut => exact (Block.unknownBeside_keeps ..).acctLegal (opened _) rfl
    case cracked => exact opened _
    all_goals exact h
  case driveSluiceShut =>
    refine Block.driven_acctLegal h _ _ fun k => ?_
    cases (b.sec k).sluice
    case cracked | opened => exact (Block.shutSluice_keeps ..).acctLegal h rfl
    all_goals exact h
  case transfer =>
    refine acctLegal_section ?_ fun k => acctLegal_check h (Option.casesOn (b.reading (.head k)) ?_ fun x => Bool.casesOn x ?_ ?_)
    · exact h
    · exact h
    · exact (Block.startTransfer_keeps ..).acctLegal h rfl
    · exact (Block.headFault_keeps ..).acctLegal h rfl
  case abortTransfer =>
    refine acctLegal_section ?_ fun k => acctLegal_ite ?_ (Option.casesOn (b.sec k).transfer ?_ fun r => acctLegal_ite ?_ ?_)
    · exact h
    · exact h
    · exact h
    · exact h
    · exact (Block.giveCause_keeps ..).acctLegal h rfl
  case survey lk _ c =>
    dsimp only [Instr.own, ownSurvey]
    exact Option.casesOn (b.chamberArg c) h fun c => Block.survey_acctLegal h _
  case surveyAll => exact Block.survey_acctLegal h _
  case advance =>
    refine acctLegal_slot ?_ fun v => acctLegal_ite ?_ (acctLegal_check h ?_)
    · exact h
    · exact h
    · exact Block.refreshSignals_acctLegal (Block.advanced_acctLegal h v)
  case withdraw =>
    refine acctLegal_slot ?_ fun v => ?_
    · exact h
    · cases (b.vessel v).state
      case inFlight | cleared => exact h
      all_goals exact acctLegal_plain (Block.withdrawn_acctLegal h v)
  case configure lk _ items =>
    dsimp only [Instr.own, ownConfigure]
    refine acctLegal_ite ?_ (acctLegal_ite ?_ (Option.casesOn (b.firstBadItem 1 items) ?_ fun _ => ?_))
    case refine_3 => exact Block.foldl_acctLegal Block.applyItem_acctLegal items h
    all_goals exact h
  case setClock => exact h
  case setLockageCharge => exact h
  case clearWriteOff => exact Bool.and_intro (Bool.and_elim_left h) rfl
  case releaseJournal lk _ seq =>
    obtain ⟨hlen, hrun, hmoney⟩ := Account.sound_of_legal h
    dsimp only [Instr.own, ownReleaseJournal]
    refine Option.casesOn (b.acct.journal.findIdx? _) h fun i => Block.drain_acctLegal ⟨?_, consecutive_drop hrun _, hmoney⟩
    exact (List.drop_sublist ..).length_le.trans hlen
  case book lk _ registration length direction _ cls cargo =>
    dsimp only [Instr.own, ownBook]
    refine Option.casesOn (directionArg direction) h fun d => acctLegal_ite ?_ (acctLegal_check h
      (Option.casesOn b.freeSlot ?_ fun v => ?_))
    all_goals exact h
  case call =>
    refine acctLegal_side ?_ fun side => acctLegal_ite ?_ (acctLegal_ite ?_ (acctLegal_ite ?_ (List.casesOn (b.queue side) ?_ fun v _ =>
      acctLegal_check h (Block.refreshSignals_acctLegal ?_))))
    all_goals exact h
  case uncall =>
    refine acctLegal_side ?_ fun side => acctLegal_ite ?_ (acctLegal_ite
      (Block.refreshSignals_acctLegal ((Block.endCall_keeps ..).acctLegal h rfl)) ?_)
    all_goals exact h
  case defer =>
    refine acctLegal_slot ?_ fun v => ?_
    · exact h
    · cases (b.vessel v).state
      case waiting =>
        refine acctLegal_ite ?_ ?_
        all_goals exact h
      all_goals exact h
  case hold =>
    dsimp only [Instr.own, ownHold]
    refine acctLegal_slot ?_ fun v => acctLegal_ite ?_ (Block.refreshSignals_acctLegal ?_)
    all_goals exact h
  case unhold =>
    dsimp only [Instr.own, ownUnhold]
    refine acctLegal_slot ?_ fun v => acctLegal_ite ?_ ?_
    all_goals exact h
  case rerate =>
    dsimp only [Instr.own, ownRerate]
    refine acctLegal_slot ?_ fun v => ?_
    · exact h
    · cases (b.vessel v).state
      case booked | waiting =>
        refine acctLegal_ite ?_ (acctLegal_ite ?_ ?_)
        all_goals exact h
      all_goals exact h
  case setSignalMode lk _ side mode =>
    dsimp only [Instr.own, ownSetSignalMode]
    refine Option.casesOn (sideArg side) h fun side => Option.casesOn (modeArg mode) h fun mode =>
      acctLegal_ite ?_ (acctLegal_ite ?_ ((Block.showAspect_keeps ..).acctLegal ?_ rfl))
    all_goals exact h
  case setAspect lk _ side aspect =>
    dsimp only [Instr.own, ownSetAspect]
    refine Option.casesOn (sideArg side) h fun side => Option.casesOn (aspectArg aspect) h fun a => acctLegal_ite ?_ ?_
    · exact h
    · refine Mode.casesOn (b.signal side).mode ?_ ?_
      · exact h
      · exact acctLegal_check h ((Block.showAspect_keeps ..).acctLegal h rfl)
  case openService =>
    dsimp only [Instr.own, ownOpenService]
    exact Option.casesOn b.openServiceCheck (Block.refreshSignals_acctLegal ((Block.changeCondition_keeps ..).acctLegal h rfl)) fun _ => h
  case endService =>
    dsimp only [Instr.own, ownEndService]
    cases b.cond.condition
    case service =>
      exact Option.casesOn b.endServiceCause (Block.refreshSignals_acctLegal ((Block.changeCondition_keeps ..).acctLegal h rfl)) fun _ => h
    all_goals exact h
  case stopAll =>
    refine acctLegal_ite ?_ ?_
    · exact h
    · exact acctLegal_plain ((Block.enterStopped_keeps ..).acctLegal h rfl)
  case resume =>
    refine acctLegal_ite ?_ (acctLegal_ite ?_ (Block.refreshSignals_acctLegal ((Block.changeCondition_keeps ..).acctLegal h rfl)))
    all_goals exact h
  case writeTariff | readTariff =>
    refine acctLegal_ite ?_ ?_
    · exact h
    · exact h
  case setRoot | setLineThreshold | flushKey =>
    refine acctLegal_ite ?_ ?_
    · exact h
    · exact h
  case readChannel =>
    refine acctLegal_dite (fun _ => ?_) fun _ => acctLegal_ite ?_ ?_
    all_goals exact h
  case setWindow lk _ w enable base mask =>
    dsimp only [Instr.own, ownSetWindow]
    exact Option.casesOn (finArg 2 w) h fun _ => Option.casesOn (markArg enable) h fun _ => h
  case setFreeze lk _ f =>
    dsimp only [Instr.own, ownSetFreeze]
    refine Option.casesOn (markArg f) h fun x => acctLegal_ite ?_ ?_
    · exact h
    · exact h
  case readSection =>
    refine acctLegal_section ?_ fun _ => ?_
    · exact h
    · exact h
  case readChamber lk _ c =>
    dsimp only [Instr.own, ownReadChamber]
    exact Option.casesOn (b.chamberArg c) h fun _ => h
  case readVessel =>
    refine acctLegal_slot ?_ fun _ => acctLegal_ite ?_ ?_
    all_goals exact h
  case readQueue | readSignal =>
    refine acctLegal_side ?_ fun _ => ?_
    · exact h
    · exact h
  case readRateCache lk _ set =>
    dsimp only [Instr.own, ownReadRateCache]
    exact Option.casesOn (finArg 4 set) h fun _ => h
  case readJournal lk _ seq =>
    refine Option.casesOn seq h fun seq => ?_
    dsimp only [Instr.own, ownReadJournal]
    exact Option.casesOn (b.acct.journal.find? _) h fun _ => h
  case readConfig lk _ part index =>
    dsimp only [Instr.own, ownReadConfig]
    generalize part.toNat = n
    rcases n with _ | _ | _ | n
    · exact h
    · refine acctLegal_dite (fun _ => ?_) fun _ => ?_
      · exact h
      · exact h
    · exact Option.casesOn (finArg 5 index) h fun _ => h
    · exact h
  case fetchNotice =>
    dsimp only [Instr.own, ownFetchNotice]
    refine acctLegal_slot ?_ fun k => acctLegal_entry ?_ fun _ => ?_
    all_goals exact h
  case setNoticeLevel lk _ pairs =>
    dsimp only [Instr.own, ownSetNoticeLevel]
    refine acctLegal_ite ?_ (Option.casesOn (pairs.mapM noticePair) ?_ fun _ => ?_)
    all_goals exact h
  case setUrgent lk _ slot enable kind =>
    dsimp only [Instr.own, ownSetUrgent]
    exact Option.casesOn (finArg 2 slot) h fun _ => Option.casesOn (markArg enable) h fun _ => Option.casesOn (finArg 16 kind) h fun _ => h
  all_goals exact h

end Owners
end Sys2Proof
end

section
/-! The taking of a request, the tick and every row keep the account part legal, the journal in it (08 R155; 09 R158, R161). -/
namespace Sys2Proof
open Machine

set_option Elab.async false

/-! ### The taking of a request -/

section Taking
variable {b : Block}

theorem Block.serve_acctLegal {own : Block → Answer} (h : (own b).AcctLegal) (lk : Link) (code tag : Byte) :
    (b.serve lk code tag own).AcctLegal := by
  dsimp only [Block.serve]
  exact Option.casesOn (own b).reply h fun _ => h

theorem Block.request_acctLegal (h : b.AcctLegal) (i : Instr) (lk : Link) (code tag : Byte) (payload : List Byte) :
    (b.request lk code tag payload i.own).AcctLegal := by
  have served {own : Block → Answer} (ho : (own b).AcctLegal) : (b.serveAlone lk code tag payload own).AcctLegal := by
    dsimp only [Block.serveAlone]
    exact Option.casesOn (own b).reply ho fun _ => ho
  exact Block.ite_acctLegal (served (Answer.acctLegal_ite (i.own_acctLegal h) (Answer.acctLegal_plain h))) h

theorem judgeRequest_acctLegal (h : b.AcctLegal) (lk : Link) (tag code : Byte) (payload : List Byte) :
    (judgeRequest lk tag code payload b).AcctLegal := by
  dsimp only [judgeRequest]
  refine Answer.acctLegal_ite ?_ (Answer.acctLegal_ite ?_
    (Option.casesOn (decodeRequest lk tag code payload) ?_ fun i => i.own_acctLegal h))
  all_goals exact h

theorem Block.takeRequest_acctLegal (h : b.AcctLegal) (lk : Link) : (b.takeRequest lk).AcctLegal := by
  dsimp only [Block.takeRequest]
  refine Block.ite_acctLegal (List.casesOn (b.link lk).requests h fun e _ => ?_) h
  cases e
  · exact Block.serve_acctLegal (judgeRequest_acctLegal h ..) ..
  · exact Block.serve_acctLegal (own := Answer.plain .badFrame) h ..

/-! ### The tick -/

/-- Of the events that stand, the arrivals and the second reach the Account Unit. -/
theorem Block.takeOutstanding_acctLegal (h : b.AcctLegal) : b.takeOutstanding.AcctLegal := by
  have settled {a : Block} (ha : a.AcctLegal) (side : Side) : ((a.settleExpiry side .red).settleExpiry side .green).AcctLegal :=
    (Block.settleExpiry_keeps ..).acctLegal ((Block.settleExpiry_keeps ..).acctLegal ha rfl) rfl
  have lapsed {a : Block} (ha : a.AcctLegal) (lk : Link) : (a.leaseExpiry lk).AcctLegal := (Block.leaseExpiry_keeps ..).acctLegal ha rfl
  dsimp only [Block.takeOutstanding]
  refine lapsed (lapsed (lapsed (Block.clockAdvance_acctLegal
    (settled (settled ((Block.phaseChange_keeps _).acctLegal ?_ rfl) _) _)) _) _) _
  exact Block.foldl_acctLegal (fun ha k => (Block.channelEvents_keeps _ k).acctLegal ha rfl) _
    (Block.foldl_acctLegal Block.arrival_acctLegal _ h)

theorem Block.motionTick_acctLegal (h : b.AcctLegal) (pins : Vector Bool 40) (first : List Input) :
    (b.motionTick pins first).AcctLegal := by
  have taken := Block.takeOutstanding_acctLegal h
  dsimp only [Block.motionTick]
  generalize b.takeOutstanding = a at taken
  have arrived : (first.foldl Block.arrival ((a.setTick a.tick.advance).sampleAll pins)).AcctLegal :=
    Block.foldl_acctLegal Block.arrival_acctLegal first (b := Block.sampleAll _ _) taken
  refine Block.ite_acctLegal ?_ ?_
  · exact taken
  · exact arrived

end Taking

/-! ### Every row -/

/-- The account part stands through a warm reset (08 R156, 09 R167). -/
theorem Block.warm_acctLegal {b : Block} (h : b.AcctLegal) : b.warm.AcctLegal := by
  refine Block.foldl_acctLegal (fun ha k => (Block.resetSection_keeps _ k).acctLegal ha rfl) _ ?_
  refine Block.foldl_acctLegal (fun ha k => (Block.stopChannels_keeps _ k).acctLegal ha rfl) _ ?_
  exact h

/-- What a row does leaves the account part legal. -/
def LeavesAcctLegal (outcome : Host.Outcome State Fault Refusal) : Prop := ∀ s', outcome = .next s' → s'.AcctLegal

section Rows
variable {s : State}

theorem leavesAcctLegal_becomes {b : Block} (h : b.AcctLegal) : LeavesAcctLegal (s.becomes b) := by
  intro s' hs
  obtain rfl := Host.Outcome.next.inj hs
  exact h

theorem leavesAcctLegal_request {i : Instr} (h : s.AcctLegal) (hi : i.frame.isSome = true) : LeavesAcctLegal (exec i s) := by
  obtain ⟨⟨lk, tag, code, payload⟩, hframe⟩ := Option.isSome_iff_exists.1 hi
  rw [exec_request hframe]
  exact leavesAcctLegal_becomes (Block.request_acctLegal h ..)

theorem exec_leavesAcctLegal (h : s.AcctLegal) (i : Instr) : LeavesAcctLegal (exec i s) := by
  induction i
  case powerOnReset => exact leavesAcctLegal_becomes (by decide : accountPowerOn.legal = true)
  case warmReset => exact leavesAcctLegal_becomes (Block.warm_acctLegal h)
  case resetPinRelease => exact leavesAcctLegal_becomes (Block.ite_acctLegal h h)
  case send | collect | ignoredTransaction => exact leavesAcctLegal_becomes h
  case requestTaken lk => exact leavesAcctLegal_becomes (Block.takeRequest_acctLegal h lk)
  case motionTick pins first => exact leavesAcctLegal_becomes (Block.motionTick_acctLegal h pins first)
  case flightClockAdvance => exact leavesAcctLegal_becomes (Block.clockAdvance_acctLegal h)
  case limitArrival | beamArrival | headSensorArrival | paddleShutArrival | floatArrival | bandArrival | lampProvingArrival
    | estopArrival =>
    exact leavesAcctLegal_becomes (Block.arrival_acctLegal h _)
  case leaseExpiry lk => exact leavesAcctLegal_becomes ((Block.leaseExpiry_keeps _ lk).acctLegal h rfl)
  case encoderPulse k => exact leavesAcctLegal_becomes ((Block.pulse_keeps _ k).acctLegal h rfl)
  case zero k => exact leavesAcctLegal_becomes ((Block.zeroEvent_keeps _ k).acctLegal h rfl)
  case stallExpiry k => exact leavesAcctLegal_becomes ((Block.stallEvent_keeps _ k).acctLegal h rfl)
  case compare k => exact leavesAcctLegal_becomes ((Block.compareEvent_keeps _ k).acctLegal h rfl)
  case expiryLimit k => exact leavesAcctLegal_becomes ((Block.limitExpiry_keeps _ k).acctLegal h rfl)
  case expiryShut k => exact leavesAcctLegal_becomes ((Block.shutExpiry_keeps _ k).acctLegal h rfl)
  case flasherPhaseChange => exact leavesAcctLegal_becomes ((Block.phaseChange_keeps _).acctLegal h rfl)
  case lampSettleExpiry side lamp => exact leavesAcctLegal_becomes ((Block.settleExpiry_keeps _ side lamp).acctLegal h rfl)
  case ratingHeadTaken => exact leavesAcctLegal_becomes ((Block.headTaken_keeps _).acctLegal h rfl)
  case walkAccessComplete => exact leavesAcctLegal_becomes ((Block.walkComplete_keeps _).acctLegal h rfl)
  case tariffWriteComplete => exact leavesAcctLegal_becomes ((Block.writeComplete_keeps _).acctLegal h rfl)
  case tariffReadComplete => exact leavesAcctLegal_becomes ((Block.readComplete_keeps _).acctLegal h rfl)
  all_goals exact leavesAcctLegal_request h rfl

end Rows

/-- Settles O58: every row keeps the account part legal, and a step on an empty queue does nothing. -/
theorem journalStaysLegal : Obligations.JournalStaysLegal := by
  intro s s' hstep hlegal
  revert hstep
  delta step
  cases s.pending with
  | nil => exact leavesAcctLegal_becomes hlegal s'
  | cons c rest => exact exec_leavesAcctLegal (s := { s with pending := rest }) hlegal c s'

end Sys2Proof
end

section
/-! The account requests of the toll office: SET CLOCK, SET LOCKAGE CHARGE, CLEAR WRITE-OFF and RELEASE JOURNAL (08 R142, R152, R154;
09 R163). -/
namespace Sys2Proof
open Machine

set_option Elab.async false

/-- A request of the toll office that its owner answers with a payload (11 R188, R191). -/
theorem exec_office_done {i : Instr} {s : State} {lk : Link} {code tag : Byte} {payload : List Byte} {p : Payload} {b : Block}
    (hs : s.office lk) (hi : i.frame = some (lk, tag, code, payload)) (hp : permitted code .t = true) (ho : i.own s.toBlock = .done p b) :
    exec i s = s.answers lk code tag .done p b := by
  rw [exec_office hs hi hp, ho]; rfl

section ReleaseJournal
variable {b : Block} {seq : W32}

theorem findIdx?_sequence_none {journal : List AccountRecord} (h : ∀ r ∈ journal, r.sequence ≠ seq) :
    journal.findIdx? (·.sequence == seq) = none :=
  List.findIdx?_eq_none_iff.2 fun r hr => beq_false_of_ne (h r hr)

/-- The first record with the number stands after those without it. -/
theorem findIdx?_sequence {before after : List AccountRecord} {r : AccountRecord} (hr : r.sequence = seq)
    (hbefore : ∀ x ∈ before, x.sequence ≠ seq) : (before ++ r :: after).findIdx? (·.sequence == seq) = some before.length := by
  subst hr
  rw [List.findIdx?_append, findIdx?_sequence_none hbefore, List.findIdx?_cons, beq_self_eq_true]
  exact congrArg some (Nat.zero_add _)

theorem ownReleaseJournal_badSequence (h : b.acct.journal.findIdx? (·.sequence == seq) = none) :
    ownReleaseJournal seq b = .plain .badSequence b := by
  delta ownReleaseJournal
  rw [h]

/-- The records up to the place of the number leave the journal, and the closing queue is written (09 R163). -/
theorem ownReleaseJournal_released {place : Nat} {left : List AccountRecord} (h : b.acct.journal.findIdx? (·.sequence == seq) = some place)
    (hleft : b.acct.journal.drop (place + 1) = left) :
    ownReleaseJournal seq b =
      (let b1 := (b.setAcct { b.acct with journal := left }).drain
       .done (.released (place + 1) (b1.acct.journal.length - left.length) b1.acct.journal.length) b1) := by
  subst hleft
  delta ownReleaseJournal
  rw [h]

end ReleaseJournal

/-- Settles O45: the settings by their owners, RELEASE JOURNAL by the place of its number in the journal. -/
theorem accountRequests : Obligations.AccountRequests := by
  refine ⟨fun s lk tag hs => ⟨fun seconds => ?_, fun w => ?_, ?_⟩, fun s lk tag seq hs => ⟨fun habsent => ?_,
    fun before after r hjournal hr hbefore => ?_⟩⟩
  · exact exec_office_done hs rfl rfl rfl
  · exact exec_office_done hs rfl rfl rfl
  · exact exec_office_done hs rfl rfl rfl
  · exact exec_office_plain hs rfl (ownReleaseJournal_badSequence (findIdx?_sequence_none habsent)) rfl
  · have left : (before ++ r :: after).drop (before.length + 1) = after := by
      rw [List.append_cons]
      exact List.drop_left' List.length_append
    exact exec_office_done hs rfl rfl (ownReleaseJournal_released (hjournal ▸ findIdx?_sequence hr hbefore) (hjournal ▸ left))

end Sys2Proof
end

section
/-! The passage fee, the total of a vessel, the shares of a lockage charge and the lockage event (08 R149, R151, R153, R155). -/
namespace Sys2Proof
open Machine

set_option Elab.async false

/-! ### Fees -/

/-- The largest passage fee (08 R149). -/
theorem passageFee_le {r : Rate} {length : Nat} (hbase : r.baseFee ≤ 65535) (hmetre : r.perMetre ≤ 4095) (hsurcharge : r.surcharge ≤ 255)
    (hlength : length ≤ 1500) : passageFee r length ≤ 2413236 := by
  have metres : (length + 9) / 10 ≤ 150 := Nat.div_le_div_right (Nat.add_le_add_right hlength 9)
  have raised := Nat.mul_le_mul (Nat.add_le_add hbase (Nat.mul_le_mul hmetre metres)) (Nat.add_le_add_left hsurcharge 100)
  exact iteInduction (motive := (· ≤ 2413236)) (fun _ => Nat.zero_le _) fun _ => Nat.div_le_div_right raised

/-- A held sum of three is their sum, held (08 R155). -/
theorem addMoney_addMoney (x y z : Nat) : addMoney (addMoney x y) z = addMoney (x + y) z := by
  delta addMoney
  rw [← Nat.add_min_add_right, Nat.min_assoc, Nat.min_eq_right (Nat.le_add_right ..)]

/-! ### The shares -/

/-- The admission sequence of a vessel as a number; a vessel without one counts as 0 (log 33). -/
def Block.admissionOf (b : Block) (v : Fin 16) : Nat := ((b.vessel v).admission.getD 0).toNat

theorem Block.lowestAdmission_eq (b : Block) (occupants : List (Fin 16)) : b.lowestAdmission occupants = occupants.argmin b.admissionOf :=
  congrArg (occupants.foldl · none) (funext fun best => funext fun _ => by cases best <;> rfl)

section Shares
variable {b : Block} {occupants : List (Fin 16)}

theorem Block.exists_lowestAdmission (h : occupants ≠ []) : ∃ v ∈ occupants, b.lowestAdmission occupants = some v := by
  obtain ⟨v, hv⟩ := Option.ne_none_iff_exists'.1 (mt List.argmin_eq_none.1 h : occupants.argmin b.admissionOf ≠ none)
  exact ⟨v, List.argmin_mem hv, (b.lowestAdmission_eq occupants).trans hv⟩

/-- Those beside the occupant who takes the remainder take one part each. -/
theorem sum_parts_of_not_mem {v : Fin 16} (part rest : Nat) (hv : v ∉ occupants) :
    (occupants.map fun w => part + if some v = some w then rest else 0).sum = occupants.length * part := by
  have others : ∀ w ∈ occupants, (part + if some v = some w then rest else 0) = part := fun w hw =>
    congrArg (part + ·) (if_neg fun e => ne_of_mem_of_not_mem hw hv (Option.some.inj e).symm)
  rw [List.map_congr_left others, List.map_const', List.sum_replicate_nat]

/-- The shares sum to the lockage charge (08 R153). -/
theorem Block.sum_shareOf (h : occupants ≠ []) (hnodup : occupants.Nodup) :
    (occupants.map (b.shareOf occupants)).sum = b.acct.charge := by
  obtain ⟨v, hv, lowest⟩ := b.exists_lowestAdmission h
  have order := List.perm_cons_erase hv
  refine (order.map _).sum_nat.trans (.trans ?_ (Nat.div_add_mod b.acct.charge occupants.length))
  change (List.map (fun w => b.acct.charge / occupants.length + if b.lowestAdmission occupants = some w then _ else 0) _).sum = _
  rw [lowest, List.map_cons, List.sum_cons, sum_parts_of_not_mem _ _ hnodup.not_mem_erase, if_pos rfl]
  generalize b.acct.charge / occupants.length = part
  rw [order.length_eq, List.length_cons, Nat.succ_mul, Nat.add_right_comm, Nat.add_comm part]

theorem Block.shareOf_cases (v : Fin 16) :
    b.shareOf occupants v = b.acct.charge / occupants.length ∨
      b.shareOf occupants v = b.acct.charge / occupants.length + b.acct.charge % occupants.length ∧
        ∀ w ∈ occupants, b.admissionOf v ≤ b.admissionOf w := by
  delta Block.shareOf
  dsimp only
  split
  next lowest => exact .inr ⟨rfl, fun w hw => List.le_of_mem_argmin hw (b.lowestAdmission_eq occupants ▸ lowest)⟩
  · exact .inl rfl

end Shares

/-! ### The lockage event -/

/-- A vessel that has taken a share: its count rises, and the share goes to its total unless it is exempt (08 R153). -/
def Vessel.shared (x : Vessel) (share : Nat) : Vessel :=
  { x with
    lockageCount := countUp 255 x.lockageCount, lockageTotal := if x.exempt then x.lockageTotal else addMoney x.lockageTotal share }

section Event
variable {b : Block}

/-- A share in one equation: the vessel takes it, and of an exempt one it goes to the write-off total. -/
theorem Block.giveShare_eq (v : Fin 16) (share : Nat) :
    b.giveShare v share =
      (b.setVessel v ((b.vessel v).shared share)).setAcct
        { b.acct with writeOff := if (b.vessel v).exempt then addMoney b.acct.writeOff share else b.acct.writeOff } := by
  dsimp only [Block.giveShare, Vessel.shared]
  cases (b.vessel v).exempt
  · rfl
  · rfl

theorem Block.giveShare_vessel_self (v : Fin 16) (share : Nat) : (b.giveShare v share).vessel v = (b.vessel v).shared share :=
  (congrArg (·.vessel v) (b.giveShare_eq v share)).trans (Block.setVessel_vessel ..)

theorem Block.giveShare_vessel_ne {v w : Fin 16} (h : w ≠ v) (share : Nat) : (b.giveShare v share).vessel w = b.vessel w :=
  (congrArg (·.vessel w) (b.giveShare_eq v share)).trans (Block.setVessel_vessel_ne _ _ _ _ h)

/-- A share changes no rate, so it makes no vessel exempt. -/
theorem Block.giveShare_exempt_vessel (v w : Fin 16) (share : Nat) : ((b.giveShare v share).vessel w).exempt = (b.vessel w).exempt := by
  by_cases h : w = v
  · subst h
    exact (congrArg Vessel.exempt (Block.giveShare_vessel_self ..)).trans rfl
  · exact congrArg Vessel.exempt (Block.giveShare_vessel_ne h share)

variable {occupants : List (Fin 16)} (share : Fin 16 → Nat)

theorem Block.giveShares_vessel_of_not_mem {v : Fin 16} (hv : v ∉ occupants) :
    (occupants.foldl (fun a w => a.giveShare w (share w)) b).vessel v = b.vessel v :=
  List.foldlRecOn (motive := fun a : Block => a.vessel v = b.vessel v) occupants _ rfl fun _ ha _ hw =>
    (Block.giveShare_vessel_ne (ne_of_mem_of_not_mem hw hv).symm _).trans ha

/-- The shares given one after the other: each occupant takes its own. -/
theorem Block.giveShares_vessel_of_mem {v : Fin 16} (hnodup : occupants.Nodup) (hv : v ∈ occupants) :
    (occupants.foldl (fun a w => a.giveShare w (share w)) b).vessel v = (b.vessel v).shared (share v) := by
  induction occupants generalizing b with
  | nil => exact absurd hv List.not_mem_nil
  | cons u rest ih =>
    obtain ⟨hu, hrest⟩ := List.nodup_cons.1 hnodup
    rcases List.mem_cons.1 hv with rfl | hv
    · exact (Block.giveShares_vessel_of_not_mem share hu).trans (Block.giveShare_vessel_self ..)
    · exact (ih hrest hv).trans (congrArg (·.shared (share v)) (Block.giveShare_vessel_ne (ne_of_mem_of_not_mem hv hu) _))

/-- The write-off total takes the share of each exempt occupant; nothing else of the account part changes. -/
theorem Block.giveShares_acct {x : Account} {exempt : Fin 16 → Bool} {total : Nat} (hacct : b.acct = { x with writeOff := total })
    (hexempt : ∀ v, (b.vessel v).exempt = exempt v) :
    (occupants.foldl (fun a w => a.giveShare w (share w)) b).acct =
      { x with writeOff := occupants.foldl (fun t w => if exempt w then addMoney t (share w) else t) total } := by
  induction occupants generalizing b total with
  | nil => exact hacct
  | cons u rest ih =>
    refine ih ((congrArg Block.acct (b.giveShare_eq u _)).trans ?_) fun v => (Block.giveShare_exempt_vessel ..).trans (hexempt v)
    rw [hexempt u, hacct]
    rfl

/-- Money added one amount after the other is held as their sum is (08 R155). -/
theorem foldl_addMoney (amounts : List Nat) {total : Nat} (h : total ≤ moneyMax) :
    amounts.foldl addMoney total = addMoney total amounts.sum := by
  induction amounts generalizing total with
  | nil => exact (Nat.min_eq_left h).symm
  | cons x rest ih => exact (ih (addMoney_le ..)).trans ((addMoney_addMoney ..).trans (congrArg (min · moneyMax) (Nat.add_assoc ..)))

theorem Block.lockageEvent_acct (b : Block) (occupants : List (Fin 16)) (h : b.acct.writeOff ≤ moneyMax) :
    (b.lockageEvent occupants).acct =
      { b.acct with
        writeOff := addMoney b.acct.writeOff ((occupants.filter fun v => (b.vessel v).exempt).map (b.shareOf occupants)).sum } := by
  refine (Block.giveShares_acct (b.shareOf occupants) rfl fun _ => rfl).trans (congrArg (fun m => { b.acct with writeOff := m }) ?_)
  rw [← foldl_addMoney _ h, List.foldl_map, List.foldl_filter]

/-- A lockage event changes vessels and the account part only. -/
theorem Block.lockageEvent_eq (b : Block) (occupants : List (Fin 16)) :
    b.lockageEvent occupants = { b with vessels := (b.lockageEvent occupants).vessels, acct := (b.lockageEvent occupants).acct } := by
  have kept := b.lockageEvent_keeps occupants
  have same := (kept.mono (more := [.chambers, .vessels, .acct]) fun _ => List.mem_cons_of_mem _).eq_with_chambers_vessels_acct
  rwa [kept.chambers] at same

end Event

/-- Settles O47: the fee by its bound, the shares by the lowest admission sequence, the event occupant by occupant. -/
theorem feesAndShares : Obligations.FeesAndShares := by
  refine ⟨⟨fun r length => rfl, fun r hbase hmetre hsurcharge hexempt => ?_,
      fun r hbase hmetre hsurcharge length hlength => passageFee_le hbase hmetre hsurcharge hlength,
      fun x => ⟨addMoney_addMoney .., Option.any_eq_true ..⟩⟩,
    fun b occupants h hnodup => ⟨b.sum_shareOf h hnodup, fun v _ => Block.shareOf_cases v⟩, fun b v share => rfl,
    fun b occupants hnodup => ⟨fun v hv => Block.giveShares_vessel_of_mem _ hnodup hv, fun v hv => Block.giveShares_vessel_of_not_mem _ hv,
      b.lockageEvent_acct occupants, b.lockageEvent_eq occupants⟩⟩
  rw [passageFee, hbase, hmetre, hsurcharge, hexempt]
  rfl

end Sys2Proof
end
